-- ==== Sys2Proof/Word.lean ====
section
/-! DEFINITION. The word types of the part: bytes, 32-bit control words and pixels, link tags. -/

namespace Sys2Proof

/-- One byte of memory or of a link packet. -/
abbrev Byte := BitVec 8

/-- A word is 32 bits (spec/00 section 4, Sizes). -/
abbrev Word := BitVec 32

/-- A send tag, 8 bits (R97). -/
abbrev Tag := BitVec 8

/-- One byte lane of a System Port write: `some b` when its byte enable is set, `none` when it is clear (R32). -/
abbrev Lane := Option Byte

end Sys2Proof
end

