-- ==== Sys2Proof/Config.lean ====
section
/-! DEFINITION. What the spec fixes once for the part, and the free values it leaves open (no body: nothing can be proved of them). -/

namespace Sys2Proof

/-- DRAM behind the Memory Port: 4 GiB (spec/00 section 1.5). -/
def Config.memoryBytes : Nat := 4294967296

/-- The byte that an address of DRAM holds that nothing has written. DESIGN CHOICE, unsafe (log entry 2):
the spec gives DRAM no content after power-on. -/
def Config.dramByte : Byte := 0

/-- Accesses of the start-up sweep (R191). -/
def Config.sweepAccesses : Nat := 104

/-- FREE VALUE (log entry 11): whether the byte at an address, of a write that stood granted on the memory channel when
power-on reset discarded it (R55), had reached DRAM (R49). Applied to the counter `State.draws` and the address. -/
opaque Config.discardedWriteLands : Nat → Nat → Bool

/-- FREE VALUE (log entry 12): how many ticks after the present one a free-running frame event is scheduled
where the spec counts it from a last frame event that is absent (R83, R85). Applied to the counter `State.draws`. -/
opaque Config.freeDelay : Nat → Nat

end Sys2Proof
end

