-- ==== Sys2Proof/Syntax.lean ====
section
/-! DEFINITION. The commands of the block: one constructor of `Instr` per row of spec/opcode_table.json, with the row's operands. -/

namespace Sys2Proof

/-- The kind of a System Port request (R32). -/
inductive ReqKind where
  | read
  | write
  deriving DecidableEq, Repr

/-- A System Port request (R32): kind, byte address, beat count as presented and, for a WRITE, one lane per data byte
(lane j is the byte at address + j; a lane beyond the list has its enable clear). -/
structure Request where
  kind : ReqKind
  addr : Word
  beats : Byte
  lanes : List Lane
  deriving DecidableEq, Repr

/-- The three shielded ranges (R38, R39), in the order of R38. -/
inductive ShieldRange where
  | statusBlock
  | reportRing
  | bankRegion
  deriving DecidableEq, Repr

/-- A byte received on a tile link's return channel (R200): the tick at which its start bit arrives, its eight data bits, and
whether its stop bit was high. -/
structure RxByte where
  start : Nat
  data : Byte
  stopHigh : Bool
  deriving DecidableEq, Repr

/-- The makers of reports (the table of spec/10 section 10.5). -/
inductive Maker where
  | bankManager
  | linkSupervisor
  | referenceUnit
  | tallyUnit
  | windowDecoder
  | controlCapture
  | systemPort
  deriving DecidableEq, Repr

/-- The commands. A System Port request carries the tick `t` at which it arrives; a write of one control word carries its
four byte enables and the written value; a step in which a block takes what was given to it carries no value, because the
state holds what is taken (log entries 5 and 6). -/
inductive Instr where
  | powerOnReset (straps : BitVec 2) (levels : BitVec 8)
  | canvasWrite (t : Nat) (offset : Word) (beats : Byte) (lanes : List Lane)
  | canvasRead (t : Nat) (offset : Word) (beats : Byte)
  | plainRequest (t : Nat) (req : Request)
  | shieldedWrite (t : Nat) (range : ShieldRange) (offset : Word) (beats : Byte) (lanes : List Lane)
  | settingWordWrite (t : Nat) (offset : BitVec 14) (beats : Byte) (lanes : List Lane)
  | runEnableSet (t : Nat) (en : BitVec 4) (v : Word)
  | runEnableClear (t : Nat) (en : BitVec 4) (v : Word)
  | copyForwardEnableWrite (t : Nat) (b : Bool)
  | attentionEnableWrite (t : Nat) (b : Bool)
  | canvasWidthWrite (t : Nat) (en : BitVec 4) (v : Word)
  | canvasHeightWrite (t : Nat) (en : BitVec 4) (v : Word)
  | canvasWindowBaseWrite (t : Nat) (en : BitVec 4) (v : Word)
  | bankRegionBaseWrite (t : Nat) (en : BitVec 4) (v : Word)
  | ringBaseWrite (t : Nat) (en : BitVec 4) (v : Word)
  | ringSizeCodeWrite (t : Nat) (en : BitVec 4) (v : Word)
  | orderCodeWrite (t : Nat) (en : BitVec 4) (v : Word)
  | commit (t : Nat) (en : BitVec 4) (v : Word)
  | wallReset (t : Nat) (en : BitVec 4) (v : Word)
  | linkClear (t : Nat) (en : BitVec 4) (v : Word)
  | referenceAcknowledge (t : Nat) (en : BitVec 4) (v : Word)
  | tallyAcknowledge (t : Nat) (en : BitVec 4) (v : Word)
  | lookEditSelector (t : Nat) (en : BitVec 4) (v : Word)
  | ringConsumerIndex (t : Nat) (en : BitVec 4) (v : Word)
  | modeWriteInternal (t : Nat) (en : BitVec 4) (v : Word)
  | modeWriteExternal (t : Nat) (en : BitVec 4) (v : Word)
  | acquireCountWrite (t : Nat) (v : Byte)
  | nominalPeriodWrite (t : Nat) (en : BitVec 4) (v : Word)
  | toleranceWrite (t : Nat) (en : BitVec 4) (v : Word)
  | phaseOffsetWrite (t : Nat) (en : BitVec 4) (v : Word)
  | holdoverLimitWrite (t : Nat) (en : BitVec 4) (v : Word)
  | tallyEdgeModesWrite (t : Nat) (en : BitVec 4) (v : Word)
  | tallyRankWrite (t : Nat) (en : BitVec 4) (v : Word)
  | cameraToLookWrite (t : Nat) (en : BitVec 4) (v : Word)
  | wallGainWordWrite (t : Nat) (en : BitVec 4) (v : Word)
  | lightingGainsWordWrite (t : Nat) (en : BitVec 4) (v : Word)
  | zoneEntryWrite (t : Nat) (z : Fin 64) (lanes : List Lane)
  | fixtureEntryWrite (t : Nat) (i : Fin 128) (lanes : List Lane)
  | lampLinkEnableSet (t : Nat) (l : Fin 2) (en : BitVec 4) (v : Word)
  | lampLinkEnableClear (t : Nat) (l : Fin 2) (en : BitVec 4) (v : Word)
  | lampLinkSetupWrite (t : Nat) (l : Fin 2) (en : BitVec 4) (v : Word)
  | missLimitWrite (t : Nat) (en : BitVec 4) (v : Word)
  | tileLinkEnableSet (t : Nat) (l : Fin 24) (en : BitVec 4) (v : Word)
  | tileLinkEnableClear (t : Nat) (l : Fin 24) (en : BitVec 4) (v : Word)
  | tileHeaderWrite (t : Nat) (l : Fin 24) (trims : Bool) (en : BitVec 4) (v : Word)
  | tileRecordWrite (t : Nat) (l : Fin 24) (r : Fin 16) (en : BitVec 4) (v : Word)
  | arbiterGrant (t : Nat)
  | memoryWriteComplete
  | readDataReturn (t : Nat)
  | preReadDataReturn
  | segmentDataReturn
  | frameEvent
  | referencePulse (t : Nat)
  | pulseMissing
  | scanOutFrameEvent
  | leaveNotice
  | recoverNotice
  | wallGainNotice
  | packetFinish (l : Fin 24)
  | returnPacketArrival (l : Fin 24) (bytes : List RxByte)
  | linkCheck
  | markNotice
  | tallyEdge (input : Fin 8) (level : Bool)
  | tallySample
  | showNotice
  | lookNotice
  | lightingGainsNotice
  | entryNotice
  | fadeStep
  | lampUnitFinish (l : Fin 2)
  | statusBlockRewrite
  | discardFlagClear
  | reportTaken (m : Maker)
  | copyReadDataReturn
  deriving DecidableEq, Repr

end Sys2Proof
end

