-- ==== Sys2Proof/Machine/State.lean ====
section
/-! DEFINITION. The state of the part, as plain data: every piece of state the spec gives each block, the notices and reports
that one block has given and another not yet taken, and the queue of commands; `State.reset`, right after power-on reset. -/

namespace Sys2Proof.Machine

/-- Why the machine stops. -/
inductive Fault where
  /-- Raised by ARBITER_GRANT where the granted access would touch an address at or above 4 GiB, beyond the DRAM of the
  Memory Port (spec/00 section 1.5). Safe: R187 keeps the part's ranges inside the space (log entry 16). -/
  | outsideMemory
  deriving DecidableEq, Repr

/-- Why a command has no meaning. -/
inductive Refusal where
  /-- The named row of spec/opcode_table.json has no meaning in this model. Raised by `exec`'s arms alone. Safe. -/
  | notModelled (mnemonic : String)
  deriving DecidableEq, Repr

/-- A red, green and blue number (levels, sums, gains, means). -/
structure RGB where
  r : Nat
  g : Nat
  b : Nat
  deriving DecidableEq, Repr

/-! ### Frame event notices, marks and reports -/

/-- The lock states of the Reference Unit (spec/04 section 4.4). ACQUIRE is cold while the schedule is empty. -/
inductive Lock where
  | internal
  | acquire
  | locked
  | holdover
  | lost
  deriving DecidableEq, Repr

/-- The frame event notice (R80): the new counter value and the lock state in force. -/
structure FrameNotice where
  count : Word
  lock : Lock
  deriving DecidableEq, Repr

/-- A MARK packet's content: SHOW or HOLD, and its tag (R98). -/
structure Mark where
  shows : Bool
  tag : Tag
  deriving DecidableEq, Repr

/-- The mark notice given to the Link Supervisor (R98). -/
structure MarkNotice where
  count : Word
  mark : Mark
  deriving DecidableEq, Repr

/-- The nine report kinds (spec/10 section 10.5). -/
inductive ReportKind where
  | commitRefused
  | frameDropped
  | frameIncomplete
  | linkState
  | refState
  | tallyEdge
  | shieldDiscard
  | settingAdjusted
  | portError
  deriving DecidableEq, Repr

/-- A report as its maker hands it over: kind, subject and kind fields (spec/10 section 10.8.5). -/
structure Report where
  kind : ReportKind
  subject : Byte
  w2 : Word
  w3 : Word
  deriving DecidableEq, Repr

/-! ### System Port, Window Decoder, memory channel -/

/-- Why the System Port refuses a request (R32). -/
inductive PortReason where
  | misaligned
  | badLength
  | crossing
  deriving DecidableEq, Repr

/-- The class of an address (R38). -/
inductive AddrClass where
  | shielded (g : ShieldRange)
  | control
  | canvas
  | plain
  deriving DecidableEq, Repr

/-- A response of the System Port (R33). -/
inductive Response where
  | data (bytes : List Byte)
  | done
  | error
  deriving DecidableEq, Repr

/-- One requested byte of a READ: the address it is read from, and whether it belongs to the first access (R40). -/
structure Pick where
  first : Bool
  addr : Nat
  deriving DecidableEq, Repr

/-- The service state of the System Port (R34), with what the request in service still needs. -/
inductive Phase where
  /-- STARTUP: the sweep's access `k` is the waiting claim; `levels` are the tally levels seen at reset (R191, R198). -/
  | startup (k : Nat) (levels : BitVec 8)
  /-- IDLE. -/
  | idle
  /-- ACCESS of a READ: the bytes to read, and the first access's data once it has come back (R35, R40). -/
  | readAccess (picks : List Pick) (got : Option (List Byte))
  /-- ACCESS of a WRITE: the bytes it places; the request finishes at its grant (R35). -/
  | writeAccess (cells : List Host.Cell)
  /-- SEAL_STALL: the held canvas write, its segment and its 64 lanes (R44). -/
  | sealStall (seg : Nat) (lanes : List Lane)
  /-- PRE_READ before the old content is back: the bank written, the bank read, the segment, the lanes, and whether the
  write is a rewrite (R45 steps 1 and 2). -/
  | preRead (bank : Fin 4) (src : Fin 4) (seg : Nat) (lanes : List Lane) (rewrite : Bool)
  /-- PRE_READ with the merged segment claimed (R45 steps 3 and 4). -/
  | mergedWrite (bank : Fin 4) (seg : Nat) (bytes : List Byte)
  /-- REFRESH: the accesses still to be granted, the waiting one first (R41). -/
  | refresh (todo : List (List Host.Cell))
  deriving DecidableEq, Repr

/-- The System Port (spec/02 sections 2.1, 2.2). -/
structure Port where
  phase : Phase
  claim : Bool
  arrived : List Request
  responses : List Response
  deriving DecidableEq, Repr

/-- The Window Decoder's own state (R39) and its frame event notices. -/
structure WindowDecoder where
  discards : Word
  reported : Bool
  frames : List FrameNotice
  deriving DecidableEq, Repr

/-- The four claimants of the Memory Channel Arbiter (R50). -/
inductive Claimant where
  | sp
  | scanOut
  | copy
  | report
  deriving DecidableEq, Repr

/-- The pass-over counts (R52). -/
structure Passed where
  sp : Nat
  scanOut : Nat
  copy : Nat
  report : Nat
  deriving DecidableEq, Repr

/-- The memory channel (R49): free, or busy with the granted access. A write carries the bytes it replaced; a read carries
the data that will return, and whether that data is to be discarded (R22, R103, R117). -/
inductive Channel where
  | free
  | write (undo : List Host.Cell)
  | spRead (data : List Byte)
  | preRead (data : List Byte)
  | segmentRead (link : Fin 24) (data : List Byte) (discard : Bool)
  | copyRead (data : List Byte) (discard : Bool)
  deriving DecidableEq, Repr

/-! ### Control Capture -/

/-- A word of the control window that Control Capture shadows (R184). -/
inductive CWord where
  | setting (i : Fin 20)
  | command (i : Fin 7)
  | look (i : Fin 2)
  | zone (z : Fin 64) (w : Fin 4)
  | fixture (f : Fin 128) (w : Fin 4)
  | tile (l : Fin 24) (w : Fin 32)
  deriving DecidableEq, Repr

/-- The three looks (R145). -/
inductive Look where
  | a
  | b
  | c
  deriving DecidableEq, Repr

/-- The two words a look holds whole (R146). -/
structure LookWords where
  wall : Word
  lights : Word
  deriving DecidableEq, Repr

/-- The shadow of every word of the control window (R184). -/
structure Shadow where
  setting : Vector Word 20
  command : Vector Word 7
  lookA : LookWords
  lookB : LookWords
  lookC : LookWords
  zones : Vector (Vector Word 4) 64
  fixtures : Vector (Vector Word 4) 128
  tiles : Vector (Vector Word 32) 24
  deriving DecidableEq, Repr

/-! ### Bank Manager and Zone Accumulator -/

/-- The eight bank states (spec/01 section 1.2). -/
inductive BankState where
  | free
  | filling
  | sealing
  | ready
  | retiring
  | sending
  | shown
  | resending
  deriving DecidableEq, Repr

/-- A zone entry (R56); `clip` is absent for code OFF. -/
structure Zone where
  enable : Bool
  s0 : Nat
  s1 : Nat
  y0 : Nat
  y1 : Nat
  clip : Option Nat
  deriving DecidableEq, Repr

/-- A zone accumulator (R2, R61). -/
structure Acc where
  sum : RGB
  count : Nat
  skipped : Bool
  deriving DecidableEq, Repr

/-- A bank record (R2). -/
structure Bank where
  state : BankState
  host : Option (BitVec 16)
  written : Nat
  src : Option (Fin 4)
  progress : Nat
  geom : Vector Zone 64
  acc : Vector Acc 64
  deriving DecidableEq, Repr

/-- A written map (R4): the bank it is lent to, and the marked segments in rising order. -/
structure WrittenMap where
  lentTo : Option (Fin 4)
  marks : List Nat
  deriving DecidableEq, Repr

/-- The copy engine (R17, R18) within its present copy step. -/
inductive CopyEngine where
  | idle
  | wantRead
  | reading
  | wantWrite (buffer : List Byte)
  deriving DecidableEq, Repr

/-! ### Reference Unit -/

/-- A scheduled frame event time (R79): the tick, and whether the free run (and not a pulse) put it there. -/
structure Sched where
  time : Nat
  freeRun : Bool
  deriving DecidableEq, Repr

/-- The Reference Unit (spec/04). -/
structure RefUnit where
  lock : Lock
  lastPulse : Option Nat
  good : Nat
  held : Nat
  schedule : List Sched
  coast : Nat
  lastFrame : Option Nat
  watch : Option Nat
  fault : Bool
  count : Word
  deriving DecidableEq, Repr

/-! ### Scan-Out Engine and tile links -/

/-- FIRST or AGAIN (R97). -/
inductive SendKind where
  | first
  | again
  deriving DecidableEq, Repr

/-- An included tile of a latched tile map (R96): its record index and origin. -/
structure TileRec where
  idx : Nat
  x0 : Nat
  y0 : Nat
  deriving DecidableEq, Repr

/-- A participating link's part of a send (R97): the latched map and trims, the progress (position in `tiles`, line,
segments fetched), the line in the assembly buffer so far, and whether the part is complete. -/
structure Part where
  tiles : List TileRec
  tw : Nat
  th : Nat
  trim : RGB
  tileAt : Nat
  line : Nat
  fetched : Nat
  assembly : List Word
  complete : Bool
  deriving DecidableEq, Repr

/-- The send record (R97). A link with no part takes no part in the send, or has left it (R103). -/
structure Send where
  kind : SendKind
  bank : Fin 4
  tag : Tag
  parts : Vector (Option Part) 24
  deriving DecidableEq, Repr

/-- The Scan-Out Engine's flags and counts of one link (R97). -/
structure ScanLink where
  primed : Bool
  starved : Bool
  late : BitVec 16
  starves : BitVec 16
  deriving DecidableEq, Repr

/-- The Scan-Out Engine (R97), with the notices given to it and not yet taken. -/
structure ScanOut where
  send : Option Send
  tag : Tag
  lastShown : Tag
  gain : Byte
  resend : Bool
  claim : Bool
  served : Fin 24
  links : Vector ScanLink 24
  frames : List FrameNotice
  leaves : List (Fin 24)
  recovers : List (Fin 24)
  gains : List Byte
  deriving DecidableEq, Repr

/-- A LINE packet's content (R107, R109). -/
structure LinePacket where
  idx : Nat
  line : Nat
  tag : Tag
  pixels : List Word
  deriving DecidableEq, Repr

/-- The packets a tile link sends (R109). -/
inductive Packet where
  | line (p : LinePacket)
  | mark (m : Mark)
  | idle
  deriving DecidableEq, Repr

/-- The packet in a shift buffer and the tick at which its last bit ends (R109). -/
structure Shifting where
  packet : Packet
  ends : Nat
  deriving DecidableEq, Repr

/-- A tile link transmitter (R109). -/
structure Transmitter where
  shift : Option Shifting
  stage : Option LinePacket
  mark : Option Mark
  deriving DecidableEq, Repr

/-! ### Link Supervisor -/

/-- The four link states (R120). -/
inductive LinkState where
  | off
  | active
  | fault
  | recover
  deriving DecidableEq, Repr

/-- The causes of LINK_STATE (R132). -/
inductive LinkCause where
  | enabled
  | disabled
  | missLimit
  | checkError
  | framingError
  | overrun
  | reportGood
  | joined
  deriving DecidableEq, Repr

/-- A link record (R120). -/
structure LinkRecord where
  state : LinkState
  buffer : Option Tag
  miss : Nat
  checkError : Bool
  framingError : Bool
  overrun : Bool
  inhibit : Bool
  deriving DecidableEq, Repr

/-- A rate code and the tick from which it has been in use (R93, R200). -/
structure RateUse where
  since : Nat
  code : Nat
  deriving DecidableEq, Repr

/-- The Link Supervisor (R120), with the notices given to it and not yet taken; for each link the frame event count of a join
whose check that event still owes (R126, log entry 29), and the rate codes its receiver has had, newest first (R200, log
entry 17). -/
structure Supervisor where
  links : Vector LinkRecord 24
  joined : Vector (Option Word) 24
  rates : Vector (List RateUse) 24
  expected : Option Tag
  frames : List FrameNotice
  marks : List MarkNotice
  deriving DecidableEq, Repr

/-! ### Tally Unit, Lighting Engine, lamp links -/

/-- The Tally Unit (R135); bit i of a mask is input i + 1. -/
structure TallyUnit where
  levels : BitVec 8
  pending : BitVec 8
  overrun : BitVec 8
  camera : Option (Fin 8)
  look : Look
  frames : List FrameNotice
  deriving DecidableEq, Repr

/-- A fixture's state (R155). -/
structure Fixture where
  target : RGB
  level : RGB
  step : RGB
  remaining : Nat
  clipped : Bool
  deriving DecidableEq, Repr

/-- The two notices that set the gains in use: a look notice and a lighting gains notice (R160). -/
inductive GainsKind where
  | look
  | lights
  deriving DecidableEq, Repr

/-- A look notice or a lighting gains notice, with the lighting gains it carries (R143, R148). -/
structure GainsNotice where
  kind : GainsKind
  gains : RGB
  deriving DecidableEq, Repr

/-- The Lighting Engine (R155), with the notices given to it and not yet taken. Look notices and lighting gains notices wait in
one list, in the order of giving, so that the last one taken carries the active look's gains (R144, R148). -/
structure Lighting where
  fixtures : Vector Fixture 128
  gains : RGB
  frames : List FrameNotice
  shows : Nat
  gainNotices : List GainsNotice
  entries : List (Fin 128)
  deriving DecidableEq, Repr

/-- What a lamp link's shift holds, and the tick at which it ends (R173, R174). -/
inductive LampShift where
  | empty
  | frame (bytes : List Byte) (ends : Nat)
  | fill (ends : Nat)
  deriving DecidableEq, Repr

/-- A lamp link transmitter (R174). -/
structure LampLink where
  shift : LampShift
  stage : Option (List Byte)
  replaced : BitVec 16
  deriving DecidableEq, Repr

/-! ### Report Writer -/

/-- A record made and not yet written (R193): its slot and its four words. -/
structure Record where
  slot : Nat
  w0 : Word
  w1 : Word
  w2 : Word
  w3 : Word
  deriving DecidableEq, Repr

/-- What a waiting Report claim writes (R194). -/
inductive RwClaim where
  | index
  | part (i : Fin 4)
  | record
  deriving DecidableEq, Repr

/-- The Report Writer (spec/10 sections 10.5, 10.6), with the reports and notices given to it and not yet taken. -/
structure ReportWriter where
  alloc : Nat
  prod : Nat
  cons : Nat
  queue : List Record
  lost : Bool
  owed : Option Nat
  claim : Option RwClaim
  image : List Byte
  outstanding : Vector Bool 4
  reports : List Report
  frames : List FrameNotice
  deriving DecidableEq, Repr

/-! ### The whole part -/

/-- The state of the part. -/
structure State where
  now : Nat
  straps : BitVec 2
  port : Port
  wd : WindowDecoder
  passed : Passed
  channel : Channel
  mem : List Host.Cell
  cc : Shadow
  banks : Vector Bank 4
  map0 : WrittenMap
  map1 : WrittenMap
  nextMap : Bool
  copy : CopyEngine
  ru : RefUnit
  so : ScanOut
  tx : Vector Transmitter 24
  lsv : Supervisor
  tu : TallyUnit
  le : Lighting
  lamps : Vector LampLink 2
  rw : ReportWriter
  draws : Nat
  pending : List Instr
  deriving DecidableEq, Repr

/-! ### Values after power-on reset -/

/-- The zero colour. -/
def RGB.zero : RGB := ⟨0, 0, 0⟩

/-- The power-on value of a look: w 255, q 128, 128, 128 (R145). -/
def LookWords.powerOn : LookWords := ⟨0x000000FF, 0x00808080⟩

/-- The power-on values of the setting words (spec/10 section 10.8.2). -/
def Shadow.powerOnSettings : Vector Word 20 :=
  #v[0x00000002, 1920, 1080, 0x00000000, 0x10000000, 0, 0x0F000000, 0, 0x000001FF, 0x00000600,
     2000000, 500, 0, 50, 0x00000000, 0x00FAC688, 0x00000000, 0x63020000, 0x63020000, 4]

/-- Every shadow at its power-on value (R191): zones disabled with clip code OFF (R56), fixtures OFF with trims 15 (R152),
links disabled with tile count 1, Tw 16, Th 1 and trims 15 (R93). -/
def Shadow.powerOn : Shadow where
  setting := Shadow.powerOnSettings
  command := Vector.replicate 7 0
  lookA := LookWords.powerOn
  lookB := LookWords.powerOn
  lookC := LookWords.powerOn
  zones := Vector.replicate 64 #v[0x00001000, 0, 0, 0]
  fixtures := Vector.replicate 128 #v[0, 0x0FFF0000, 0, 0]
  tiles := Vector.replicate 24 ((Vector.replicate 32 0).set 0 0x00041008 |>.set 1 0x000F0F0F)

/-- The reset value of a zone entry (R56). -/
def Zone.powerOn : Zone := ⟨false, 0, 0, 0, 0, none⟩

/-- A cleared accumulator (R31). -/
def Acc.zero : Acc := ⟨RGB.zero, 0, false⟩

/-- A bank record after power-on reset (R29). -/
def Bank.powerOn : Bank where
  state := .free
  host := none
  written := 0
  src := none
  progress := 0
  geom := Vector.replicate 64 Zone.powerOn
  acc := Vector.replicate 64 Acc.zero

/-- The Reference Unit after power-on reset (R92). -/
def RefUnit.powerOn : RefUnit where
  lock := .acquire
  lastPulse := none
  good := 0
  held := 0
  schedule := []
  coast := 2000000
  lastFrame := none
  watch := none
  fault := false
  count := 0

/-- The Scan-Out Engine after power-on reset (R97, R119). -/
def ScanOut.powerOn : ScanOut where
  send := none
  tag := 0
  lastShown := 0
  gain := 255
  resend := false
  claim := false
  served := 23
  links := Vector.replicate 24 ⟨false, false, 0, 0⟩
  frames := []
  leaves := []
  recovers := []
  gains := []

/-- The Link Supervisor after power-on reset (R120, R134). -/
def Supervisor.powerOn : Supervisor where
  links := Vector.replicate 24 ⟨.off, none, 0, false, false, false, false⟩
  joined := Vector.replicate 24 none
  rates := Vector.replicate 24 []
  expected := none
  frames := []
  marks := []

/-- The Lighting Engine after power-on reset (R155, R171). -/
def Lighting.powerOn : Lighting where
  fixtures := Vector.replicate 128 ⟨RGB.zero, RGB.zero, RGB.zero, 0, false⟩
  gains := ⟨128, 128, 128⟩
  frames := []
  shows := 0
  gainNotices := []
  entries := []

/-- The power-on image of the status block (R198): every byte 0, but ACQUIRE (code 1) as lock state and the tally levels
seen at reset. -/
def powerOnImage (levels : BitVec 8) : List Byte :=
  (((List.replicate 256 (0 : Byte)).set 4 1).set 20 levels)

/-- The Report Writer after power-on reset (R199). -/
def ReportWriter.powerOn (levels : BitVec 8) : ReportWriter where
  alloc := 0
  prod := 0
  cons := 0
  queue := []
  lost := false
  owed := none
  claim := none
  image := powerOnImage levels
  outstanding := Vector.replicate 4 false
  reports := []
  frames := []

/-- The part after power-on reset with the window straps at `straps` and the tally inputs at `levels`, over what power-on
reset does not touch: the content of DRAM, the requests waiting outside the part, the responses already returned, the count
of free values drawn and the queue of commands (R29, R55, R75, R92, R119, R134, R151, R171, R183, R199). R4 and R29 give the two
maps' lending and the next map, and no value for their marks: both start with no mark set (DESIGN CHOICE, log entry 27). -/
def State.powerOn (straps : BitVec 2) (levels : BitVec 8) (mem : List Host.Cell) (arrived : List Request)
    (responses : List Response) (draws : Nat) (pending : List Instr) : State where
  now := 0
  straps := straps
  port := { phase := .startup 0 levels, claim := true, arrived := arrived, responses := responses }
  wd := { discards := 0, reported := false, frames := [] }
  passed := ⟨0, 0, 0, 0⟩
  channel := .free
  mem := mem
  cc := Shadow.powerOn
  banks := Vector.replicate 4 Bank.powerOn
  map0 := ⟨none, []⟩
  map1 := ⟨none, []⟩
  nextMap := false
  copy := .idle
  ru := RefUnit.powerOn
  so := ScanOut.powerOn
  tx := Vector.replicate 24 ⟨none, none, none⟩
  lsv := Supervisor.powerOn
  tu := { levels := levels, pending := 0, overrun := 0, camera := none, look := .a, frames := [] }
  le := Lighting.powerOn
  lamps := Vector.replicate 2 ⟨.empty, none, 0⟩
  rw := ReportWriter.powerOn levels
  draws := draws
  pending := pending

/-- The machine right after power-on reset, with the window straps at 0 and every tally input low (DESIGN CHOICE, log
entry 3), nothing listed in memory (log entry 2) and no command waiting. -/
def State.reset : State := State.powerOn 0 0 [] [] [] 0 []

end Sys2Proof.Machine
end

