-- ==== Sys2Proof/Machine/Operands.lean ====
section
/-! DEFINITION. Operand forms: bit fields of words, the bytes of a System Port request, the words of the control window and
their shadows, the setting values in use, and the canvas geometry that follows from them. -/

namespace Sys2Proof.Machine

/-! ### Tables -/

/-- A fixed table with entry `i` replaced. -/
def put {α : Type} {n : Nat} (v : Vector α n) (i : Fin n) (x : α) : Vector α n := v.set i.val x i.isLt

/-- A fixed table, entry by entry. -/
def tabulate {α : Type} {n : Nat} (f : Fin n → α) : Vector α n := Vector.ofFn f

/-! ### Bits of words -/

/-- Bits `lo` to `lo + len - 1` of a word, as a number (spec/10 section 10.8: bit 0 is the least significant). -/
def field (w : Word) (lo len : Nat) : Nat := (w.extractLsb' lo len).toNat

/-- A word with bits `lo` to `lo + len - 1` replaced by the low `len` bits of `v`, its other bits kept. -/
def setField (w : Word) (lo len v : Nat) : Word :=
  (w &&& ~~~ (((BitVec.allOnes len).setWidth 32) <<< lo)) ||| (((BitVec.ofNat len v).setWidth 32) <<< lo)

/-- Byte `i` of a little-endian word. -/
def byteOf (w : Word) (i : Nat) : Byte := w.extractLsb' (8 * i) 8

/-- The word of four bytes, lowest address first. -/
def wordOf (b0 b1 b2 b3 : Byte) : Word := b3 ++ b2 ++ b1 ++ b0

/-- The four bytes of a word, lowest address first (memory is little-endian, spec/00 section 4). -/
def bytesOf (w : Word) : List Byte := [byteOf w 0, byteOf w 1, byteOf w 2, byteOf w 3]

/-- The four bytes of a word, most significant first (fields on the tile links, spec/10 section 10.8). -/
def bytesHighFirst (w : Word) : List Byte := [byteOf w 3, byteOf w 2, byteOf w 1, byteOf w 0]

/-- A word built from fields: each value at its lowest bit. -/
def pack (fields : List (Nat × Nat)) : Word :=
  fields.foldl (fun w f => w ||| (BitVec.ofNat 32 f.1 <<< f.2)) 0

/-- 1 for true. -/
def bit (b : Bool) : Nat := if b then 1 else 0

/-- A mask with bit `i` set to `b`. -/
def setBit (m : BitVec 8) (i : Fin 8) (b : Bool) : BitVec 8 :=
  if b then m ||| (1#8 <<< i.val) else m &&& ~~~ (1#8 <<< i.val)

/-! ### The bytes of a request -/

/-- The four lanes of a one-word write: byte `i` of `v` where enable bit `i` is set. -/
def wordLanes (en : BitVec 4) (v : Word) : List Lane :=
  (List.range 4).map fun i => if en.getLsbD i then some (byteOf v i) else none

/-- The enabled bytes of a WRITE request, with their addresses, in address order (R32). -/
def reqCells (r : Request) : List Host.Cell :=
  (List.range (16 * r.beats.toNat)).filterMap fun j => ((r.lanes[j]?).getD none).map fun b => (r.addr.toNat + j, b)

/-- The addresses of a READ request, in order. -/
def reqAddrs (r : Request) : List Nat :=
  (List.range (16 * r.beats.toNat)).map fun j => r.addr.toNat + j

/-- The byte a set of enabled bytes gives an address, if any. -/
def cellAt (cells : List Host.Cell) (a : Nat) : Lane := (cells.find? fun c => c.1 == a).map (·.2)

/-- The lanes of the `n` addresses from `base`. -/
def lanesAt (cells : List Host.Cell) (base n : Nat) : List Lane :=
  (List.range n).map fun i => cellAt cells (base + i)

/-- The bytes of a list placed at consecutive addresses. -/
def cellsFrom (base : Nat) (bytes : List Byte) : List Host.Cell :=
  (List.range bytes.length).map fun i => (base + i, bytes.getD i 0)

/-- Old bytes with the enabled lanes replacing them (R10, R11, R185 step 1). -/
def mergeBytes (old : List Byte) (lanes : List Lane) : List Byte :=
  (List.range old.length).map fun i => ((lanes[i]?).getD none).getD (old.getD i 0)

/-- The merged value of a word: its shadow with the enabled bytes replaced (R185 step 1). -/
def mergeWord (old : Word) (lanes : List Lane) : Word :=
  let b := fun i => ((lanes[i]?).getD none).getD (byteOf old i)
  wordOf (b 0) (b 1) (b 2) (b 3)

/-- Some lane is enabled. -/
def anyLane (lanes : List Lane) : Bool := lanes.any Option.isSome

/-- The first check of R32 that a request fails, in the table's order. -/
def requestError (r : Request) : Option PortReason :=
  if r.addr.toNat % 4 ≠ 0 then some .misaligned
  else if r.beats.toNat = 0 ∨ 4 < r.beats.toNat then some .badLength
  else if 64 < r.addr.toNat % 64 + 16 * r.beats.toNat then some .crossing
  else none

/-! ### The words of the control window (spec/10 section 10.1) -/

/-- The offset of a word in the control window. -/
def CWord.offset : CWord → Nat
  | .setting i => 4 * i.val
  | .command i => 0x100 + 4 * i.val
  | .look i => 0x140 + 4 * i.val
  | .zone z w => 0x400 + 16 * z.val + 4 * w.val
  | .fixture f w => 0x800 + 16 * f.val + 4 * w.val
  | .tile l w => 0x1000 + 128 * l.val + 4 * w.val

/-- The word at a control window offset that is a multiple of 4, if there is one (the table of section 10.1). -/
def wordAt (off : Nat) : Option CWord :=
  if h : off < 0x50 then some (.setting ⟨off / 4, by omega⟩)
  else if h : 0x100 ≤ off ∧ off < 0x11C then some (.command ⟨(off - 0x100) / 4, by omega⟩)
  else if h : 0x140 ≤ off ∧ off < 0x148 then some (.look ⟨(off - 0x140) / 4, by omega⟩)
  else if h : 0x400 ≤ off ∧ off < 0x800 then
    some (.zone ⟨(off - 0x400) / 16, by omega⟩ ⟨off % 16 / 4, by omega⟩)
  else if h : 0x800 ≤ off ∧ off < 0x1000 then
    some (.fixture ⟨(off - 0x800) / 16, by omega⟩ ⟨off % 16 / 4, by omega⟩)
  else if h : 0x1000 ≤ off ∧ off < 0x1C00 then
    some (.tile ⟨(off - 0x1000) / 128, by omega⟩ ⟨off % 128 / 4, by omega⟩)
  else none

/-- The look a selector or camera-to-look code names: 0 A, 1 B, 2 C. Code 3 is never held (R141, R147); it reads as C here
(log entry 20). -/
def lookOfCode (n : Nat) : Look := if n = 0 then .a else if n = 1 then .b else .c

/-- The code of a look. -/
def Look.code : Look → Nat
  | .a => 0
  | .b => 1
  | .c => 2

/-- The words of a look. -/
def Shadow.look (c : Shadow) : Look → LookWords
  | .a => c.lookA
  | .b => c.lookB
  | .c => c.lookC

/-- The words of a look replaced. -/
def Shadow.setLook (c : Shadow) (l : Look) (w : LookWords) : Shadow :=
  match l with
  | .a => { c with lookA := w }
  | .b => { c with lookB := w }
  | .c => { c with lookC := w }

/-- The look the edit selector names (R145). -/
def Shadow.selected (c : Shadow) : Look := lookOfCode (field c.command[5] 0 2)

/-- The shadow of a word; a look parameter block word's shadow is the selected look's (R184). -/
def Shadow.word (c : Shadow) : CWord → Word
  | .setting i => c.setting[i]
  | .command i => c.command[i]
  | .look i => if i = 0 then (c.look c.selected).wall else (c.look c.selected).lights
  | .zone z w => (c.zones[z])[w]
  | .fixture f w => (c.fixtures[f])[w]
  | .tile l w => (c.tiles[l])[w]

/-- The shadow of a word replaced. -/
def Shadow.setWord (c : Shadow) (w : CWord) (v : Word) : Shadow :=
  match w with
  | .setting i => { c with setting := put c.setting i v }
  | .command i => { c with command := put c.command i v }
  | .look i =>
    let l := c.look c.selected
    c.setLook c.selected (if i = 0 then { l with wall := v } else { l with lights := v })
  | .zone z i => { c with zones := put c.zones z (put c.zones[z] i v) }
  | .fixture f i => { c with fixtures := put c.fixtures f (put c.fixtures[f] i v) }
  | .tile l i => { c with tiles := put c.tiles l (put c.tiles[l] i v) }

/-! ### The setting values in use (spec/10 section 10.8.2) -/

/-- The run enable in use: the wall runs (R189). -/
def Shadow.running (c : Shadow) : Bool := c.setting[0].getLsbD 0
/-- The copy-forward enable in use (R8). -/
def Shadow.copyForward (c : Shadow) : Bool := c.setting[0].getLsbD 1
/-- The attention enable in use (R196). -/
def Shadow.attentionEnable (c : Shadow) : Bool := c.setting[0].getLsbD 2
/-- The canvas width W in use. -/
def Shadow.width (c : Shadow) : Nat := field c.setting[1] 0 13
/-- The canvas height H in use. -/
def Shadow.height (c : Shadow) : Nat := field c.setting[2] 0 12
/-- The canvas window base in use. -/
def Shadow.canvasBase (c : Shadow) : Nat := c.setting[3].toNat
/-- The bank region base in use. -/
def Shadow.regionBase (c : Shadow) : Nat := c.setting[4].toNat
/-- The arbiter order code in use (R53). -/
def Shadow.orderCode (c : Shadow) : Nat := field c.setting[5] 0 3
/-- The ring base in use (R192). -/
def Shadow.ringBase (c : Shadow) : Nat := c.setting[6].toNat
/-- The ring size code in use (R186). -/
def Shadow.ringCode (c : Shadow) : Nat := field c.setting[7] 0 4
/-- The reference mode in use is INTERNAL (R76). -/
def Shadow.modeInternal (c : Shadow) : Bool := c.setting[9].getLsbD 0
/-- The acquire count A in use. -/
def Shadow.acquireCount (c : Shadow) : Nat := field c.setting[9] 8 5
/-- The nominal period Pn in use. -/
def Shadow.period (c : Shadow) : Nat := field c.setting[10] 0 23
/-- The tolerance Tt in use. -/
def Shadow.tolerance (c : Shadow) : Nat := field c.setting[11] 0 17
/-- The phase offset in use. -/
def Shadow.phaseOffset (c : Shadow) : Nat := field c.setting[12] 0 23
/-- The holdover limit Hl in use. -/
def Shadow.holdoverLimit (c : Shadow) : Nat := field c.setting[13] 0 9
/-- The edge mode code of an input in use: 0 OFF, 1 RISE, 2 FALL, 3 BOTH (R136). -/
def Shadow.edgeMode (c : Shadow) (i : Fin 8) : Nat := field c.setting[14] (2 * i.val) 2
/-- The input code at a position of the rank in use (R140). -/
def Shadow.rankAt (c : Shadow) (p : Nat) : Fin 8 := (c.setting[15].extractLsb' (3 * p) 3).toFin
/-- The look the camera-to-look map in use names for an input (R141). -/
def Shadow.cameraLook (c : Shadow) (i : Fin 8) : Look := lookOfCode (field c.setting[16] (2 * i.val) 2)
/-- The default look in use (R141). -/
def Shadow.defaultLook (c : Shadow) : Look := lookOfCode (field c.setting[16] 16 2)
/-- The setup word of a lamp link (R172). -/
def Shadow.lampWord (c : Shadow) (l : Fin 2) : Word := if l = 0 then c.setting[17] else c.setting[18]
/-- The enable of a lamp link in use. -/
def Shadow.lampEnable (c : Shadow) (l : Fin 2) : Bool := (c.lampWord l).getLsbD 0
/-- The slot count S of a lamp link in use. -/
def Shadow.lampSlots (c : Shadow) (l : Fin 2) : Nat := field (c.lampWord l) 8 10
/-- The ticks of one byte time of a lamp link: 10 × P × (n + 1), P = 4, 16, 64 or 256 by code (R173). -/
def Shadow.lampByteTicks (c : Shadow) (l : Fin 2) : Nat :=
  10 * 4 ^ (field (c.lampWord l) 20 2 + 1) * (field (c.lampWord l) 24 8 + 1)
/-- The miss limit in use (R131). -/
def Shadow.missLimit (c : Shadow) : Nat := field c.setting[19] 0 5
/-- The enable of a report kind in the report kind mask in use: code k in bit k - 1. -/
def Shadow.kindEnabled (c : Shadow) (code : Nat) : Bool := c.setting[8].getLsbD (code - 1)
/-- The wall gain of a look (R145). -/
def LookWords.wallGain (l : LookWords) : Byte := l.wall.extractLsb' 0 8
/-- The lighting gains of a look (R145). -/
def LookWords.gains (l : LookWords) : RGB := ⟨field l.lights 0 8, field l.lights 8 8, field l.lights 16 8⟩
/-- The link enable of a tile link in use (R93). -/
def Shadow.linkEnable (c : Shadow) (l : Fin 24) : Bool := (c.tiles[l])[0].getLsbD 0
/-- The ticks one byte takes on a tile link: d + 1 for the rate code d in use (R109). -/
def Shadow.linkByteTicks (c : Shadow) (l : Fin 24) : Nat := field (c.tiles[l])[0] 1 2 + 1

/-! ### Zone and fixture entries -/

/-- A zone entry read from its words (spec/10 section 10.8.3); clip code 16 is OFF. -/
def zoneOf (w : Vector Word 4) : Zone where
  enable := w[0].getLsbD 0
  s0 := field w[1] 0 9
  s1 := field w[1] 16 9
  y0 := field w[2] 0 12
  y1 := field w[2] 16 12
  clip := if field w[0] 8 5 < 16 then some (field w[0] 8 5) else none

/-- Mode code of a fixture entry: 0 OFF, 1 ZONE, 2 FIXED. -/
def fixMode (w : Vector Word 4) : Nat := field w[0] 0 2
/-- Zone index of a fixture entry. -/
def fixZone (w : Vector Word 4) : Fin 64 := (w[0].extractLsb' 8 6).toFin
/-- Fade code of a fixture entry. -/
def fixFade (w : Vector Word 4) : Nat := field w[0] 16 5
/-- First slot of a fixture entry. -/
def fixSlot (w : Vector Word 4) : Nat := field w[1] 0 9
/-- Lamp link of a fixture entry. -/
def fixLink (w : Vector Word 4) : Fin 2 := if w[1].getLsbD 12 then 1 else 0
/-- Trims of a fixture entry. -/
def fixTrim (w : Vector Word 4) : RGB := ⟨field w[1] 16 4, field w[1] 20 4, field w[1] 24 4⟩
/-- Fixed levels of a fixture entry. -/
def fixLevels (w : Vector Word 4) : RGB := ⟨field w[2] 0 16, field w[2] 16 16, field w[3] 0 16⟩

/-! ### Canvas geometry and address ranges -/

/-- The canvas in bytes: W × 4 × H. -/
def canvasBytes (w h : Nat) : Nat := w * 4 * h

/-- The bank size: the smallest whole number of MiB not less than W × 4 × H (R1). -/
def bankSize (w h : Nat) : Nat := (canvasBytes w h + 1048575) / 1048576 * 1048576

/-- Segment columns of a canvas row: W / 16 (R62). -/
def Shadow.columns (c : Shadow) : Nat := c.width / 16

/-- N, the segments of the canvas (R1). -/
def Shadow.segments (c : Shadow) : Nat := c.columns * c.height

/-- The bank size in use. -/
def Shadow.bankSize (c : Shadow) : Nat := Machine.bankSize c.width c.height

/-- Where bank `k` begins (R1). -/
def Shadow.bankAddr (c : Shadow) (k : Fin 4) : Nat := c.regionBase + k.val * c.bankSize

/-- The address of a segment of a bank (R105). -/
def Shadow.segmentAddr (c : Shadow) (k : Fin 4) (seg : Nat) : Nat := c.bankAddr k + 64 * seg

/-- Records in the ring: 2^(code + 3), or 0 while the ring is off (R192). -/
def ringSizeOf (code : Nat) : Nat := if code = 0 then 0 else 2 ^ (code + 3)

/-- The ring size in use. -/
def Shadow.ringSize (c : Shadow) : Nat := ringSizeOf c.ringCode

/-- Where the control window lies for strap value `k`: k × 1 GiB + 1 GiB − 16 KiB (R36). -/
def controlBase (straps : BitVec 2) : Nat := straps.toNat * 0x40000000 + 0x40000000 - 0x4000

/-- `a` lies in the `len` bytes from `base`. -/
def inRange (a base len : Nat) : Bool := base ≤ a && a < base + len

/-- Two ranges share an address; an empty range shares none. -/
def overlap (b1 n1 b2 n2 : Nat) : Bool := 0 < n1 && 0 < n2 && b1 < b2 + n2 && b2 < b1 + n1

/-- The class of an address, by the first range of R38 that contains it. -/
def State.classOf (s : State) (a : Nat) : AddrClass :=
  if inRange a (controlBase s.straps + 0x200) 0x100 then .shielded .statusBlock
  else if inRange a s.cc.ringBase (16 * s.cc.ringSize) then .shielded .reportRing
  else if inRange a s.cc.regionBase (4 * s.cc.bankSize) then .shielded .bankRegion
  else if inRange a (controlBase s.straps) 0x4000 then .control
  else if s.cc.running && inRange a s.cc.canvasBase s.cc.bankSize then .canvas
  else .plain

/-- Where a shielded range begins. -/
def State.shieldBase (s : State) : ShieldRange → Nat
  | .statusBlock => controlBase s.straps + 0x200
  | .reportRing => s.cc.ringBase
  | .bankRegion => s.cc.regionBase

/-- The class of an address is a shielded one. -/
def AddrClass.isShielded : AddrClass → Bool
  | .shielded _ => true
  | _ => false

end Sys2Proof.Machine
end

