-- ==== Sys2Proof/Machine/Ops.lean ====
section
/-! DEFINITION. The named operations every family uses: bytes of memory in canonical form, the time base, bank records and
links by number, and handing a report to the Report Writer. -/

namespace Sys2Proof.Machine

/-! ### Memory -/

/-- Memory: address and byte pairs, addresses strictly rising, no pair that an unlisted address would read as. -/
abbrev Memory := List Host.Cell

/-- The byte at an address; an unlisted one reads `Config.dramByte` (log entry 2). -/
def Memory.read : Memory → Nat → Byte
  | [], _ => Config.dramByte
  | (a', b) :: m, a => if a' = a then b else Memory.read m a

/-- One byte written, keeping the canonical form. -/
def Memory.write : Memory → Nat → Byte → Memory
  | [], a, b => if b = Config.dramByte then [] else [(a, b)]
  | (a', b') :: m, a, b =>
    if a < a' then (if b = Config.dramByte then (a', b') :: m else (a, b) :: (a', b') :: m)
    else if a = a' then (if b = Config.dramByte then m else (a, b) :: m)
    else (a', b') :: Memory.write m a b

/-- The bytes at a list of addresses. -/
def Memory.readAll (m : Memory) (addrs : List Nat) : List Byte := addrs.map m.read

/-- Every byte of an access written, in order. -/
def Memory.writeAll (m : Memory) (cells : List Host.Cell) : Memory := cells.foldl (fun m c => m.write c.1 c.2) m

/-- The bytes that a set of writes would replace: what undoing them puts back. -/
def Memory.undo (m : Memory) (cells : List Host.Cell) : List Host.Cell := cells.map fun c => (c.1, m.read c.1)

/-- Every listed address is above `lo`, rising, and no listed byte is what an unlisted one reads as. -/
def Memory.risingFrom : Nat → Memory → Bool
  | _, [] => true
  | lo, (a, b) :: m => lo ≤ a && b != Config.dramByte && Memory.risingFrom (a + 1) m

/-- The canonical form of memory. -/
def Memory.wf (m : Memory) : Bool := Memory.risingFrom 0 m

/-- The 64 addresses of a block. -/
def blockAddrs (base : Nat) : List Nat := (List.range 64).map fun i => base + i

/-! ### The memory channel -/

/-- A granted write: its bytes are in memory at the grant, and the channel is busy until DRAM accepts them (R35, R49). -/
def placeWrite (s : State) (cells : List Host.Cell) : State :=
  { s with channel := .write (Memory.undo s.mem cells), mem := Memory.writeAll s.mem cells }

/-! ### Time -/

/-- The time base brought forward to tick `t`; it never goes back (log entry 1). -/
def atTime (s : State) (t : Nat) : State := { s with now := max s.now t }

/-! ### Reports -/

/-- The code of a report kind (spec/10 section 10.8.5). -/
def ReportKind.code : ReportKind → Nat
  | .commitRefused => 1
  | .frameDropped => 2
  | .frameIncomplete => 3
  | .linkState => 4
  | .refState => 5
  | .tallyEdge => 6
  | .shieldDiscard => 7
  | .settingAdjusted => 8
  | .portError => 9

/-- The maker of a report kind (the table of spec/10 section 10.5). -/
def ReportKind.maker : ReportKind → Maker
  | .commitRefused => .bankManager
  | .frameDropped => .bankManager
  | .frameIncomplete => .bankManager
  | .linkState => .linkSupervisor
  | .refState => .referenceUnit
  | .tallyEdge => .tallyUnit
  | .shieldDiscard => .windowDecoder
  | .settingAdjusted => .controlCapture
  | .portError => .systemPort

/-- A report handed to the Report Writer, which takes it in a step of its own (R193, REPORT_TAKEN). -/
def report (s : State) (kind : ReportKind) (subject : Nat) (w2 w3 : Word) : State :=
  { s with rw := { s.rw with reports := s.rw.reports ++ [⟨kind, BitVec.ofNat 8 subject, w2, w3⟩] } }

/-- SETTING_ADJUSTED for the word at a control window offset (R185 step 4), with its cause's code. -/
def reportAdjusted (s : State) (cause : Nat) (off : Nat) (value : Word) : State :=
  report s .settingAdjusted cause (BitVec.ofNat 32 off) value

/-! ### Records by number -/

/-- A bank record replaced. -/
def setBank (s : State) (k : Fin 4) (b : Bank) : State := { s with banks := put s.banks k b }

/-- A tile link transmitter replaced. -/
def setTx (s : State) (l : Fin 24) (x : Transmitter) : State := { s with tx := put s.tx l x }

/-- A link record of the Link Supervisor replaced. -/
def setLink (s : State) (l : Fin 24) (r : LinkRecord) : State :=
  { s with lsv := { s.lsv with links := put s.lsv.links l r } }

/-- The Scan-Out Engine's flags and counts of one link replaced. -/
def setScanLink (s : State) (l : Fin 24) (r : ScanLink) : State :=
  { s with so := { s.so with links := put s.so.links l r } }

/-- A fixture's state replaced. -/
def setFixture (s : State) (i : Fin 128) (f : Fixture) : State :=
  { s with le := { s.le with fixtures := put s.le.fixtures i f } }

/-- A lamp link transmitter replaced. -/
def setLamp (s : State) (l : Fin 2) (x : LampLink) : State := { s with lamps := put s.lamps l x }

/-- The shadow of a control word replaced. -/
def setShadow (s : State) (w : CWord) (v : Word) : State := { s with cc := s.cc.setWord w v }

end Sys2Proof.Machine
end

