-- ==== Sys2Proof/Machine/Flags.lean ====
section
/-! DEFINITION. Status: the codes the part shows its states by, and the conditions and flags that follow from its state. -/

namespace Sys2Proof.Machine

/-! ### Code sets (spec/10 section 10.8.5) -/

/-- Bank state code. -/
def BankState.code : BankState → Nat
  | .free => 0
  | .filling => 1
  | .sealing => 2
  | .ready => 3
  | .retiring => 4
  | .sending => 5
  | .shown => 6
  | .resending => 7

/-- Lock state code. -/
def Lock.code : Lock → Nat
  | .internal => 0
  | .acquire => 1
  | .locked => 2
  | .holdover => 3
  | .lost => 4

/-- Link state code. -/
def LinkState.code : LinkState → Nat
  | .off => 0
  | .active => 1
  | .fault => 2
  | .recover => 3

/-- LINK_STATE cause code. -/
def LinkCause.code : LinkCause → Nat
  | .enabled => 0
  | .disabled => 1
  | .missLimit => 2
  | .checkError => 3
  | .framingError => 4
  | .overrun => 5
  | .reportGood => 6
  | .joined => 7

/-- PORT_ERROR reason code. -/
def PortReason.code : PortReason → Nat
  | .misaligned => 0
  | .badLength => 1
  | .crossing => 2

/-- SHIELD_DISCARD range code. -/
def shieldCode : ShieldRange → Nat
  | .statusBlock => 0
  | .reportRing => 1
  | .bankRegion => 2

/-! ### The bank table (spec/01) -/

/-- The lowest-numbered bank whose record meets a condition. -/
def findBank (s : State) (p : Bank → Bool) : Option (Fin 4) := (List.finRange 4).find? fun k => p s.banks[k]

/-- The bank in a state, if there is one (R3 allows at most one of each but FREE and RETIRING). -/
def bankIn (s : State) (st : BankState) : Option (Fin 4) := findBank s fun b => b.state == st

/-- The bank being sent: SENDING or RESENDING. -/
def bankSending (s : State) : Option (Fin 4) := findBank s fun b => b.state == .sending || b.state == .resending

/-- The bank that the wall displays: SHOWN or RESENDING (R73). -/
def bankOnWall (s : State) : Option (Fin 4) := findBank s fun b => b.state == .shown || b.state == .resending

/-- The FILLING bank or, with none FILLING, the SEALING bank: the target of canvas reads (R46) and of the copy (R17). -/
def bankTarget (s : State) : Option (Fin 4) :=
  match bankIn s .filling with
  | some k => some k
  | none => bankIn s .sealing

/-- The newest committed bank still held: READY, else SENDING or RESENDING, else SHOWN (R8, R47). -/
def newestCommitted (s : State) : Option (Fin 4) :=
  match bankIn s .ready with
  | some k => some k
  | none =>
    match bankSending s with
    | some k => some k
    | none => bankIn s .shown

/-- A copy is running for a bank: its copy source is present and its progress is below N (R2). -/
def copyRunning (s : State) (k : Fin 4) : Bool := (s.banks[k]).src.isSome && (s.banks[k]).progress < s.cc.segments

/-- A bank is the copy source of the FILLING or SEALING bank (R23). -/
def isCopySource (s : State) (k : Fin 4) : Bool :=
  (List.finRange 4).any fun j =>
    ((s.banks[j]).state == .filling || (s.banks[j]).state == .sealing) && (s.banks[j]).src == some k

/-- The marks of the map lent to a bank; none while no map is lent to it (R4). -/
def marksOf (s : State) (k : Fin 4) : List Nat :=
  if s.map0.lentTo = some k then s.map0.marks else if s.map1.lentTo = some k then s.map1.marks else []

/-- A segment is marked written in the current fill of a bank (R5). -/
def isMarked (s : State) (k : Fin 4) (seg : Nat) : Bool := (marksOf s k).contains seg

/-! ### Scan-out (spec/05) -/

/-- A part has a line not yet fully read, and its assembly buffer is empty or holds a line not yet fully read (R106). -/
def Part.needsFetch (p : Part) : Bool := p.tileAt < p.tiles.length && p.fetched < p.tw / 16

/-- The part of a link in the send in progress. -/
def partOf (s : State) (l : Fin 24) : Option Part :=
  match s.so.send with
  | none => none
  | some d => d.parts[l]

/-- A participating link needs a fetch (R106). -/
def linkNeedsFetch (s : State) (l : Fin 24) : Bool :=
  match partOf s l with
  | none => false
  | some p => p.needsFetch

/-- Some link needs a fetch. -/
def anyNeedsFetch (s : State) : Bool := (List.finRange 24).any (linkNeedsFetch s)

/-- The Scan-Out Engine is urgent while some link is starved (R51, R113). -/
def urgent (s : State) : Bool := (List.finRange 24).any fun l => (s.so.links[l]).starved

/-! ### Lighting (spec/08) -/

/-- A fixture is placed: its first slot + 6 is at most the slot count in use of its lamp link (R154). -/
def placed (c : Shadow) (i : Fin 128) : Bool := fixSlot c.fixtures[i] + 6 ≤ c.lampSlots (fixLink c.fixtures[i])

/-! ### Report ring (spec/10) -/

/-- The ring is full: the allocation index + 1, modulo the ring size, equals the consumer index in use (R193). -/
def ringFull (s : State) : Bool := (s.rw.alloc + 1) % s.cc.ringSize == s.rw.cons

/-- The attention line is asserted: the attention enable is set and the producer index differs from the consumer index in
use (R196). -/
def State.attention (s : State) : Bool := s.cc.attentionEnable && s.rw.prod != s.rw.cons

end Sys2Proof.Machine
end

