-- ==== Sys2Proof/Machine/Reports.lean ====
section
/-! DEFINITION. The Report Writer (spec/10 sections 10.5 to 10.8): taking reports, the ring and its restart, the status block
image, the Report claims; the rows REPORT_TAKEN and STATUS_BLOCK_REWRITE. -/

namespace Sys2Proof.Machine

/-- What every meaning answers. -/
abbrev Result := Host.Outcome State Fault Refusal

/-! ### Report claims -/

/-- The lowest outstanding part of the status block. -/
def firstOutstanding (s : State) : Option (Fin 4) := (List.finRange 4).find? fun i => s.rw.outstanding[i]

/-- What the Report Writer writes next: the index write owed, then an outstanding part of the status block, lowest offset
first, then the oldest queued record (R194). -/
def nextRwClaim (s : State) : Option RwClaim :=
  if s.rw.owed.isSome then some .index
  else
    match firstOutstanding s with
    | some i => some (.part i)
    | none => if s.rw.queue.isEmpty then none else some .record

/-- The Report Writer raises its next claim, if none is waiting and there is something to write (R50, R194). -/
def rwRaise (s : State) : State :=
  match s.rw.claim with
  | some _ => s
  | none => { s with rw := { s.rw with claim := nextRwClaim s } }

/-! ### Taking a report (R193) -/

/-- The record of a report: its slot, and words 0 to 3 of spec/10 section 10.8.5 with the lost flag and the frame event
count as they stand. -/
def recordOf (s : State) (r : Report) : Record where
  slot := s.rw.alloc
  w0 := pack [(r.kind.code, 0), (bit s.rw.lost, 7), (r.subject.toNat, 8)]
  w1 := s.ru.count
  w2 := r.w2
  w3 := r.w3

/-- The Report Writer takes a report: discards it (kind disabled, or ring off), drops it with the lost flag set (ring full,
or 64 records queued), or makes a record of it and queues it (R193). -/
def takeReport (s : State) (r : Report) : State :=
  if !s.cc.kindEnabled r.kind.code then s
  else if s.cc.ringCode = 0 then s
  else if ringFull s || 64 ≤ s.rw.queue.length then { s with rw := { s.rw with lost := true } }
  else
    rwRaise { s with rw := { s.rw with
      queue := s.rw.queue ++ [recordOf s r], lost := false, alloc := (s.rw.alloc + 1) % s.cc.ringSize } }

/-- Every report handed over so far, taken in the order of handing (log entry 7). -/
def takeAllReports (s : State) : State :=
  s.rw.reports.foldl takeReport { s with rw := { s.rw with reports := [] } }

/-- A report is of a maker. -/
def madeBy (m : Maker) (r : Report) : Bool := decide (r.kind.maker = m)

/-- REPORT_TAKEN (R193): the Report Writer takes the oldest report a maker has handed over; with none, nothing changes
(log entry 5). -/
def execReportTaken (m : Maker) (s : State) : Result :=
  match s.rw.reports.find? (madeBy m) with
  | none => .next s
  | some r => .next (takeReport { s with rw := { s.rw with reports := s.rw.reports.eraseP (madeBy m) } } r)

/-! ### Ring restart (R192) -/

/-- A waiting record or index claim is withdrawn, and the Report count becomes 0 (R192, R52); a waiting part stays. -/
def withdrawRingClaim (s : State) : State :=
  match s.rw.claim with
  | some .index => { s with rw := { s.rw with claim := none }, passed := { s.passed with report := 0 } }
  | some .record => { s with rw := { s.rw with claim := none }, passed := { s.passed with report := 0 } }
  | some (.part _) => s
  | none => s

/-- A ring restart: the three indices 0, the queue emptied, the lost flag cleared, a record or index claim withdrawn, and
no index write owed (R192). -/
def ringRestart (s : State) : State :=
  let s1 := withdrawRingClaim s
  rwRaise { s1 with rw := { s1.rw with alloc := 0, prod := 0, cons := 0, queue := [], lost := false, owed := none } }

/-! ### The status block image (R197, R198, spec/10 section 10.8.4) -/

/-- Word 0x208: state of each bank, and whether its host frame number is present. -/
def bankStatesWord (s : State) : Word :=
  pack ((List.finRange 4).flatMap fun k =>
    [((s.banks[k]).state.code, 8 * k.val), (bit (s.banks[k]).host.isSome, 8 * k.val + 7)])

/-- A host frame number, 0 when absent (R198). -/
def hostNumber (b : Bank) : Nat :=
  match b.host with
  | none => 0
  | some n => n.toNat

/-- Word 0x204: lock state, fault latch, active camera and look, send in progress, last shown tag. -/
def unitWord (s : State) : Word :=
  pack [(s.ru.lock.code, 0), (bit s.ru.fault, 3),
    ((match s.tu.camera with | none => 0 | some i => i.val + 1), 4), (s.tu.look.code, 8),
    ((match s.so.send with | none => 0 | some d => (match d.kind with | .first => 1 | .again => 2)), 12),
    (s.so.lastShown.toNat, 16)]

/-- A link's 16 bits at 0x244 + 2L. -/
def linkBits (r : LinkRecord) : Nat :=
  (pack [(r.state.code, 0), (r.miss, 4), (bit r.checkError, 8), (bit r.framingError, 9), (bit r.overrun, 10),
    (bit r.inhibit, 11)]).toNat

/-- The 32 flags of fixtures 32w to 32w + 31, fixture i in bit i mod 32. -/
def fixtureFlags (f : Fin 128 → Bool) (w : Fin 4) : Word :=
  pack ((List.finRange 32).map fun i => (bit (f ⟨32 * w.val + i.val, by omega⟩), i.val))

/-- The words of the status block, offset 0x200 first. -/
def statusWords (s : State) : List Word :=
  [s.ru.count, unitWord s, bankStatesWord s,
    pack [(hostNumber s.banks[0], 0), (hostNumber s.banks[1], 16)],
    pack [(hostNumber s.banks[2], 0), (hostNumber s.banks[3], 16)],
    pack [(s.tu.levels.toNat, 0), (s.tu.pending.toNat, 8), (s.tu.overrun.toNat, 16)],
    s.wd.discards, BitVec.ofNat 32 s.rw.prod,
    pack [(s.lamps[0].replaced.toNat, 0), (s.lamps[1].replaced.toNat, 16)]]
  ++ (List.finRange 4).map (fixtureFlags fun i => !placed s.cc i)
  ++ (List.finRange 4).map (fixtureFlags fun i => (s.le.fixtures[i]).clipped)
  ++ (List.finRange 12).map (fun j => pack
      [(linkBits s.lsv.links[2 * j.val], 0), (linkBits s.lsv.links[2 * j.val + 1], 16)])
  ++ (List.finRange 24).map (fun l => pack [((s.so.links[l]).late.toNat, 0), ((s.so.links[l]).starves.toNat, 16)])
  ++ List.replicate 11 0

/-- The 256-byte image of the status block (R197); bytes 0x2D4 to 0x2FF are 0 (R198). -/
def statusImage (s : State) : List Byte := (statusWords s).flatMap bytesOf

/-- The bytes of part `i` of the block, with the producer index as it stands now in the first part (R197). -/
def partCells (s : State) (i : Fin 4) : List Host.Cell :=
  let bytes := (List.range 64).map fun j => s.rw.image.getD (64 * i.val + j) 0
  let bytes := if i = 0 then bytes.take 28 ++ bytesOf (BitVec.ofNat 32 s.rw.prod) ++ bytes.drop 32 else bytes
  cellsFrom (controlBase s.straps + 0x200 + 64 * i.val) bytes

/-- The index write: 4 bytes at status block offset 0x21C (R194). -/
def indexCells (s : State) (v : Nat) : List Host.Cell :=
  cellsFrom (controlBase s.straps + 0x21C) (bytesOf (BitVec.ofNat 32 v))

/-- The 16 bytes of a record at its slot (R192, R194). -/
def recordCells (s : State) (r : Record) : List Host.Cell :=
  cellsFrom (s.cc.ringBase + 16 * r.slot) (bytesOf r.w0 ++ bytesOf r.w1 ++ bytesOf r.w2 ++ bytesOf r.w3)

/-- STATUS_BLOCK_REWRITE (R197): the Report Writer takes the oldest frame event notice given to it, snapshots the state the
block shows, and marks the four parts outstanding. -/
def execStatusBlockRewrite (s : State) : Result :=
  match s.rw.frames with
  | [] => .next s
  | _ :: rest =>
    .next (rwRaise { s with rw := { s.rw with
      frames := rest, image := statusImage s, outstanding := Vector.replicate 4 true } })

end Sys2Proof.Machine
end

