-- ==== Sys2Proof/Machine/Zones.lean ====
section
/-! DEFINITION. The Zone Accumulator (spec/03): segment contributions, the sums of a bank, zone means and the mean query. -/

namespace Sys2Proof.Machine

/-- The 16 pixel words of a segment's 64 bytes (spec/10 section 10.8.1). -/
def pixelsOf (bytes : List Byte) : List Word :=
  (List.range 16).map fun i =>
    wordOf (bytes.getD (4 * i) 0) (bytes.getD (4 * i + 1) 0) (bytes.getD (4 * i + 2) 0) (bytes.getD (4 * i + 3) 0)

/-- The components of a pixel word; its two spare bits are ignored (R64). -/
def pixelRGB (w : Word) : RGB := ⟨field w 0 10, field w 10 10, field w 20 10⟩

/-- A pixel is a highlight for a zone: its largest component is at or above 64 × c + 32; none is for code OFF (R63). -/
def isHighlight (clip : Option Nat) (p : RGB) : Bool :=
  match clip with
  | none => false
  | some c => 64 * c + 32 ≤ max p.r (max p.g p.b)

/-- A sum of colours. -/
def RGB.add (x y : RGB) : RGB := ⟨x.r + y.r, x.g + y.g, x.b + y.b⟩

/-- A difference of colours. -/
def RGB.sub (x y : RGB) : RGB := ⟨x.r - y.r, x.g - y.g, x.b - y.b⟩

/-- The pixels of a segment that a zone with this clip setting includes (R64). -/
def includedPixels (clip : Option Nat) (bytes : List Byte) : List RGB :=
  ((pixelsOf bytes).map pixelRGB).filter fun p => !isHighlight clip p

/-- The sum of some pixels. -/
def sumPixels (ps : List RGB) : RGB := ps.foldl RGB.add RGB.zero

/-- Segment `seg` belongs to a zone: enabled, row and column within the bounds (R62). -/
def segmentInZone (columns : Nat) (z : Zone) (seg : Nat) : Bool :=
  z.enable && (z.y0 ≤ seg / columns && seg / columns ≤ z.y1) && (z.s0 ≤ seg % columns && seg % columns ≤ z.s1)

/-- An accumulator with a segment's contribution added (R64, R65, R66). -/
def Acc.plus (a : Acc) (clip : Option Nat) (bytes : List Byte) : Acc :=
  let ps := includedPixels clip bytes
  { a with sum := a.sum.add (sumPixels ps), count := a.count + ps.length }

/-- An accumulator with one segment's old content taken out and its new content put in, as one update (R67). -/
def Acc.swap (a : Acc) (clip : Option Nat) (old new : List Byte) : Acc :=
  let po := includedPixels clip old
  let pn := includedPixels clip new
  { a with sum := (a.sum.add (sumPixels pn)).sub (sumPixels po), count := a.count + pn.length - po.length }

/-- A bank with a segment's content counted in, by the bank's own latched geometry (R65, R66). -/
def addSegment (columns : Nat) (b : Bank) (seg : Nat) (bytes : List Byte) : Bank :=
  { b with acc := tabulate fun z =>
      if segmentInZone columns b.geom[z] seg then (b.acc[z]).plus (b.geom[z]).clip bytes else b.acc[z] }

/-- A bank with a segment's content replaced in its sums (R67). -/
def swapSegment (columns : Nat) (b : Bank) (seg : Nat) (old new : List Byte) : Bank :=
  { b with acc := tabulate fun z =>
      if segmentInZone columns b.geom[z] seg then (b.acc[z]).swap (b.geom[z]).clip old new else b.acc[z] }

/-- The accumulators of a bank at its opening: zero, skipped where the latched entry is disabled (R61). -/
def openAccs (geom : Vector Zone 64) : Vector Acc 64 :=
  tabulate fun z => { Acc.zero with skipped := !(geom[z]).enable }

/-- The staged zone table as zone entries, for latching (R60). -/
def stagedZones (c : Shadow) : Vector Zone 64 := tabulate fun z => zoneOf c.zones[z]

/-- The mean of a zone, or none where the zone is empty: skipped, or with a count of 0 (R72). -/
def zoneMean (a : Acc) : Option RGB :=
  if a.skipped || a.count == 0 then none
  else some ⟨a.sum.r / a.count, a.sum.g / a.count, a.sum.b / a.count⟩

/-- The answer to a mean query: the bank on the wall and the mean of each zone, or none for "no shown bank" (R73). -/
def meanQuery (s : State) : Option (Fin 4 × Vector (Option RGB) 64) :=
  match bankOnWall s with
  | none => none
  | some k => some (k, tabulate fun z => zoneMean (s.banks[k]).acc[z])

end Sys2Proof.Machine
end

