-- ==== Sys2Proof/Machine/Banks.lean ====
section
/-! DEFINITION. The Bank Manager (spec/01): freeing and retiring banks, the written maps, opening, commit, the copy engine,
and its answers to the Scan-Out Engine's requests. -/

namespace Sys2Proof.Machine

/-! ### Freeing (R23, R31) -/

/-- A bank record cleared as the bank becomes FREE; the latched geometry is kept (R31). -/
def Bank.freed (b : Bank) : Bank :=
  { b with state := .free, host := none, written := 0, src := none, progress := 0, acc := Vector.replicate 64 Acc.zero }

/-- A bank that a rule makes FREE: RETIRING instead while it is the copy source of the FILLING or SEALING bank (R23). -/
def releaseBank (s : State) (k : Fin 4) : State :=
  if isCopySource s k then setBank s k { s.banks[k] with state := .retiring } else setBank s k (s.banks[k]).freed

/-! ### Written maps (R4, R5) -/

/-- A mark put into a rising list of marks. -/
def insertMark : List Nat → Nat → List Nat
  | [], n => [n]
  | m :: ms, n => if n < m then n :: m :: ms else if n = m then m :: ms else m :: insertMark ms n

/-- The next map lent to a bank with every mark cleared; the other map is the next to lend (R4). -/
def lendMap (s : State) (k : Fin 4) : State :=
  if s.nextMap then { s with map1 := ⟨some k, []⟩, nextMap := false }
  else { s with map0 := ⟨some k, []⟩, nextMap := true }

/-- A map is no longer lent; it keeps its marks (R4). -/
def WrittenMap.release (m : WrittenMap) : WrittenMap := { m with lentTo := none }

/-- The map lent to a bank released. -/
def releaseMap (s : State) (k : Fin 4) : State :=
  { s with
    map0 := if s.map0.lentTo = some k then s.map0.release else s.map0
    map1 := if s.map1.lentTo = some k then s.map1.release else s.map1 }

/-- The mark of a segment set in the map lent to a bank. -/
def setMark (s : State) (k : Fin 4) (seg : Nat) : State :=
  if s.map0.lentTo = some k then { s with map0 := { s.map0 with marks := insertMark s.map0.marks seg } }
  else if s.map1.lentTo = some k then { s with map1 := { s.map1 with marks := insertMark s.map1.marks seg } }
  else s

/-- A segment becomes written: its mark is set and, if it was clear, the written segment count rises by one (R5). -/
def markWritten (s : State) (k : Fin 4) (seg : Nat) : State :=
  if isMarked s k seg then s
  else
    let s1 := setMark s k seg
    setBank s1 k { s1.banks[k] with written := (s1.banks[k]).written + 1 }

/-! ### The copy engine (R17 to R22) -/

/-- The first segment at or after `p` that is not marked, or N: the copy steps that end at once (R18 step 1). -/
def skipMarked (marks : List Nat) (n : Nat) : Nat → Nat → Nat
  | 0, p => p
  | fuel + 1, p => if p < n ∧ marks.contains p then skipMarked marks n fuel (p + 1) else p

/-- A RETIRING bank becomes FREE with its record cleared; a bank in any other state stays (R20). -/
def freeRetired (s : State) (k : Fin 4) : State :=
  if (s.banks[k]).state = .retiring then setBank s k (s.banks[k]).freed else s

/-- A SEALING bank becomes READY and its map is released (R21). -/
def sealComplete (s : State) (k : Fin 4) : State :=
  if (s.banks[k]).state = .sealing then releaseMap (setBank s k { s.banks[k] with state := .ready }) k else s

/-- The copy engine goes idle: no Copy claim waits, and the Copy count is 0 (R17, R52). -/
def copyIdle (s : State) : State := { s with copy := .idle, passed := { s.passed with copy := 0 } }

/-- The copy of a target completes: its source becomes absent, a RETIRING source is freed, a SEALING target becomes READY
(R20, R21). -/
def copyComplete (s : State) (k : Fin 4) : State :=
  let s1 := copyIdle (setBank s k { s.banks[k] with src := none })
  match (s.banks[k]).src with
  | none => sealComplete s1 k
  | some j => sealComplete (freeRetired s1 j) k

/-- The copy engine takes up the next copy step of a target: marked segments are skipped at once, then a read claim is
raised for the first unmarked one, or the copy completes (R17, R18 steps 1 and 2). -/
def copyAdvance (s : State) (k : Fin 4) : State :=
  let p := skipMarked (marksOf s k) s.cc.segments (s.cc.segments - (s.banks[k]).progress) (s.banks[k]).progress
  let s1 := setBank s k { s.banks[k] with progress := p }
  if p < s.cc.segments then { s1 with copy := .wantRead } else copyComplete s1 k

/-- The end of the copy step that the engine works on: the progress rises by one and the next step is taken up (R18). -/
def copyStepEnd (s : State) (k : Fin 4) : State :=
  copyAdvance (setBank s k { s.banks[k] with progress := (s.banks[k]).progress + 1 }) k

/-- The data of a copy read on the channel is to be discarded when it returns (R22). -/
def discardCopyRead (c : Channel) : Channel :=
  match c with
  | .copyRead data _ => .copyRead data true
  | c => c

/-- A running copy is abandoned: the engine goes idle, a waiting claim is withdrawn, and the data of a read already granted
will be discarded (R22, R50, R52). -/
def copyAbandon (s : State) : State := copyIdle { s with channel := discardCopyRead s.channel }

/-! ### Opening (R7, R8) -/

/-- The copy source of a bank that opens: the newest committed bank still held, if copy-forward is enabled (R8). -/
def openSource (s : State) : Option (Fin 4) := if s.cc.copyForward then newestCommitted s else none

/-- The record of a bank at its opening (R7, R8): FILLING, nothing written, the staged zone table latched, accumulators
cleared, and the copy at 0 with a source or done without one. -/
def openRecord (s : State) : Bank where
  state := .filling
  host := none
  written := 0
  src := openSource s
  progress := if (openSource s).isSome then 0 else s.cc.segments
  geom := stagedZones s.cc
  acc := openAccs (stagedZones s.cc)

/-- A bank opens: record set, map lent, and the copy engine's first step taken up if it has a source (R7, R8, R17). -/
def openBank (s : State) (k : Fin 4) : State :=
  let s1 := lendMap (setBank s k (openRecord s)) k
  if (openSource s).isSome then copyAdvance s1 k else s1

/-! ### Commit (R13 to R16) -/

/-- The READY bank, if there is one, is superseded: FRAME_DROPPED, then FREE or RETIRING (R14). -/
def supersedeReady (s : State) : State :=
  match bankIn s .ready with
  | none => s
  | some k =>
    releaseBank (report s .frameDropped k.val (BitVec.ofNat 32 (hostNumber s.banks[k])) 0) k

/-- The fill of a FILLING bank is closed with a host frame number: SEALING while its copy runs, else READY with its map
released, and FRAME_INCOMPLETE if segments are unwritten (R15, R16). -/
def closeFill (s : State) (k : Fin 4) (n : BitVec 16) : State :=
  let b := { s.banks[k] with host := some n }
  if b.src.isSome then setBank s k { b with state := .sealing }
  else
    let s1 := releaseMap (setBank s k { b with state := .ready }) k
    if b.written < s.cc.segments then
      report s1 .frameIncomplete k.val (n.setWidth 32) (BitVec.ofNat 32 b.written)
    else s1

/-- A commit carrying a host frame number: refused while the wall is stopped or with no bank FILLING, else taken (R13 to
R16). -/
def takeCommit (s : State) (n : BitVec 16) : State :=
  if !s.cc.running then report s .commitRefused 0 (n.setWidth 32) 0
  else
    match bankIn s .filling with
    | none => report s .commitRefused 0 (n.setWidth 32) 1
    | some k => closeFill (supersedeReady s) k n

/-! ### Wall reset and stop (R30) -/

/-- Every bank FREE with its record cleared, both maps released, any running copy abandoned (R30). -/
def freeAllBanks (s : State) : State :=
  copyAbandon { s with banks := tabulate fun k => (s.banks[k]).freed, map0 := s.map0.release, map1 := s.map1.release }

/-! ### Requests of the Scan-Out Engine (R24 to R26) -/

/-- Send the ready bank: a READY bank becomes SENDING (R24). The answer is its number, or none. -/
def sendReady (s : State) : State × Option (Fin 4) :=
  match bankIn s .ready with
  | none => (s, none)
  | some k => (setBank s k { s.banks[k] with state := .sending }, some k)

/-- Resend the shown bank: a SHOWN bank becomes RESENDING (R25). -/
def resendShown (s : State) : State × Option (Fin 4) :=
  match bankIn s .shown with
  | none => (s, none)
  | some k => (setBank s k { s.banks[k] with state := .resending }, some k)

/-- The bank SHOWN leaves the screen, if there is one (R26). -/
def leaveScreen (s : State) : State :=
  match bankIn s .shown with
  | none => s
  | some j => releaseBank s j

/-- A bank becomes SHOWN (R26). -/
def setShown (s : State) (k : Fin 4) : State := setBank s k { s.banks[k] with state := .shown }

/-- Show the bank being sent: a SENDING bank becomes SHOWN and the bank SHOWN before leaves the screen; a RESENDING bank
becomes SHOWN again (R26). The answer is the number of the bank shown, or none. -/
def showSent (s : State) : State × Option (Fin 4) :=
  match bankIn s .sending with
  | some k => (setShown (leaveScreen s) k, some k)
  | none =>
    match bankIn s .resending with
    | some k => (setShown s k, some k)
    | none => (s, none)

/-! ### Render writes into the FILLING bank (R9 to R11, R43) -/

/-- A FILLING bank takes a write to one segment, given as 64 lanes: straight through (R9), as a rewrite (R10) or as a
partial first write (R11). The System Port raises its claim. -/
def steerWrite (s : State) (k : Fin 4) (seg : Nat) (lanes : List Lane) : State :=
  if isMarked s k seg then
    { s with port := { s.port with phase := .preRead k k seg lanes true, claim := true } }
  else if lanes.all Option.isSome then
    let bytes := lanes.map fun l => l.getD 0
    let s1 := markWritten s k seg
    let s2 := setBank s1 k (addSegment s.cc.columns s1.banks[k] seg bytes)
    { s2 with port := { s2.port with
        phase := .writeAccess (cellsFrom (s.cc.segmentAddr k seg) bytes), claim := true } }
  else
    let src := match (s.banks[k]).src with
      | none => k
      | some j => if copyRunning s k && (s.banks[k]).progress ≤ seg then j else k
    let s1 := markWritten s k seg
    { s1 with port := { s1.port with phase := .preRead k src seg lanes false, claim := true } }

/-- A canvas WRITE with an enabled byte (R6, R43, R44): into the FILLING bank; held while a bank is SEALING; else a bank is
opened first. With no bank FREE to open (section 1.4.1 shows there is one) the write stays held (log entry 15). -/
def takeCanvasWrite (s : State) (seg : Nat) (lanes : List Lane) : State :=
  match bankIn s .filling with
  | some k => steerWrite s k seg lanes
  | none =>
    let held := { s with port := { s.port with phase := .sealStall seg lanes, claim := false } }
    match bankIn s .sealing with
    | some _ => held
    | none =>
      match bankIn s .free with
      | some k => steerWrite (openBank s k) k seg lanes
      | none => held

/-- The write held in SEAL_STALL is taken again once no bank is SEALING (R21, R44). -/
def retakeStalled (s : State) : State :=
  match s.port.phase with
  | .sealStall seg lanes => if (bankIn s .sealing).isSome then s else takeCanvasWrite s seg lanes
  | _ => s

/-- The bank a canvas READ of a segment is served from, or none for the canvas window's own address (R46, R47). -/
def readBank (s : State) (seg : Nat) : Option (Fin 4) :=
  match bankTarget s with
  | some k =>
    if isMarked s k seg then some k
    else
      match (s.banks[k]).src with
      | none => some k
      | some j => if copyRunning s k && (s.banks[k]).progress ≤ seg then some j else some k
  | none => newestCommitted s

end Sys2Proof.Machine
end

