-- ==== Sys2Proof/Machine/Links.lean ====
section
/-! DEFINITION. The Link Supervisor (spec/06): return packets, the check at each frame event, link states and their notices;
the rows RETURN_PACKET_ARRIVAL, LINK_CHECK and MARK_NOTICE. -/

namespace Sys2Proof.Machine

/-! ### Changes of link state (R128, R132) -/

/-- LINK_STATE for a link: previous state, the state, flags and miss count as they stand after the change, and the cause
(R132). -/
def reportLink (s : State) (l : Fin 24) (prev : LinkState) (cause : LinkCause) : State :=
  let r := s.lsv.links[l]
  report s .linkState l.val
    (pack [(prev.code, 0), (r.state.code, 4), (cause.code, 8), (bit r.checkError, 12), (bit r.framingError, 13),
      (bit r.overrun, 14), (bit r.inhibit, 15), (r.miss, 16)]) 0

/-- A leave notice given to the Scan-Out Engine (R128). -/
def giveLeave (s : State) (l : Fin 24) : State := { s with so := { s.so with leaves := s.so.leaves ++ [l] } }

/-- A recover notice given to the Scan-Out Engine (R128). -/
def giveRecover (s : State) (l : Fin 24) : State := { s with so := { s.so with recovers := s.so.recovers ++ [l] } }

/-- A link record changes to a new state: the record is replaced, the notice the change calls for is given, and LINK_STATE
is reported (R128, R132). -/
def changeLink (s : State) (l : Fin 24) (r : LinkRecord) (cause : LinkCause) : State :=
  let prev := (s.lsv.links[l]).state
  let s1 := setLink s l r
  let s2 := if prev = .active ∧ r.state ≠ .active then giveLeave s1 l else s1
  let s3 := if r.state = .recover ∧ prev ≠ .recover then giveRecover s2 l else s2
  reportLink s3 l prev cause

/-! ### Bytes on a line (R200) -/

/-- The level of an idle line: high. -/
def idleLevel : Bool := true

/-- The ten bit levels of a byte on a line: a low start bit, the data least significant bit first, a high stop bit. -/
def lineBits (b : Byte) : List Bool := false :: (List.range 8).map (fun i => b.getLsbD i) ++ [true]

/-- The level of a line in bit time `j` of bytes sent back to back, idle after the last of them. -/
def lineLevel (bytes : List Byte) (j : Nat) : Bool := ((bytes.flatMap lineBits)[j]?).getD idleLevel

/-- The byte a receiver takes from the ten bit levels that begin with a start bit at a tick. -/
def byteReceived (start : Nat) (levels : List Bool) : RxByte where
  start := start
  data := (List.range 8).foldl (fun b i => b ||| ((BitVec.ofBool (levels.getD (i + 1) idleLevel)).setWidth 8 <<< i)) 0
  stopHigh := levels.getD 9 idleLevel

/-! ### The cut into packets (R200) -/

/-- The rate code in use at a link at a tick (R93, R200): the newest one in use by then, 0 from power-on reset. -/
def rateAt (s : State) (l : Fin 24) (t : Nat) : Nat :=
  match (s.lsv.rates[l]).find? fun u => u.since ≤ t with
  | none => 0
  | some u => u.code

/-- The rate code of a link's header word is in use from now on (R93, R200). -/
def noteRate (s : State) (l : Fin 24) : State :=
  { s with lsv := { s.lsv with rates := put s.lsv.rates l (⟨s.now, field (s.cc.tiles[l])[0] 1 2⟩ :: s.lsv.rates[l]) } }

/-- The tick at which the stop bit of a received byte ends at a rate code: ten bit times, `rate + 1` ticks, after its start
(R109, R200). The line counts as idle from then on, also after a byte whose stop bit is low, where R200 does not say from when
(DESIGN CHOICE, log entry 30). -/
def stopEnd (rate : Nat) (b : RxByte) : Nat := b.start + (rate + 1)

/-- The line is idle for more than one byte time between two received bytes (R200). -/
def idleBetween (rate : Nat) (a b : RxByte) : Bool := stopEnd rate a + (rate + 1) < b.start

/-- The bytes received from the first start bit after an idle line until the line is next idle for more than one byte time, at
the rate code held from that start bit (R200). -/
def cutRun (rate : Nat) : List RxByte → List RxByte
  | [] => []
  | [a] => [a]
  | a :: b :: rest => if idleBetween rate a b then [a] else a :: cutRun rate (b :: rest)

/-- The tick at which the packet that a run begins with has arrived (R200): with a ninth byte, the start of that byte; else the
first tick at which the line has been idle for more than one byte time after the last stop bit. -/
def arrivalTick (rate : Nat) (run : List RxByte) : Nat :=
  match run[8]? with
  | some ninth => ninth.start
  | none =>
    match run.getLast? with
    | some b => stopEnd rate b + (rate + 1) + 1
    | none => 0

/-- The rate code at which the packet that begins some received bytes is received: the one in use when its first start bit
arrives, held to the packet's end (R200). -/
def heldRate (s : State) (l : Fin 24) (bytes : List RxByte) : Nat :=
  match bytes with
  | [] => 0
  | b :: _ => rateAt s l b.start

/-! ### Return packets (R121, R122, R200) -/

/-- A run of bytes has the framing R121 accepts: exactly eight bytes, each with a high stop bit, the first 0x08 (R200). -/
def framingGood (bytes : List RxByte) : Bool :=
  bytes.length == 8 && bytes.all (·.stopHigh) && (bytes.map (·.data)).head? == some 0x08

/-- The sum of a packet's bytes modulo 256 (R121, R200). -/
def byteSum (bytes : List RxByte) : Nat := ((bytes.map fun b => b.data.toNat).sum) % 256

/-- What an arriving return packet is to a link that receives: good, or a return error, by the tests of R121 in their
order. -/
def packetFault (r : LinkRecord) (bytes : List RxByte) : Option LinkCause :=
  if !framingGood bytes then some .framingError
  else if byteSum bytes ≠ 255 then some .checkError
  else if r.buffer.isSome then some .overrun
  else none

/-- The record with the flag of a return error set, the receive inhibit set and the buffer emptied (R122). -/
def LinkRecord.withError (r : LinkRecord) (cause : LinkCause) : LinkRecord :=
  { r with
    checkError := r.checkError || decide (cause = .checkError)
    framingError := r.framingError || decide (cause = .framingError)
    overrun := r.overrun || decide (cause = .overrun)
    inhibit := true
    buffer := none }

/-- A return error at a link: an ACTIVE or RECOVER link enters FAULT, a FAULT link stays there without a report (R122). -/
def returnError (s : State) (l : Fin 24) (cause : LinkCause) : State :=
  let r := (s.lsv.links[l]).withError cause
  if r.state = .active ∨ r.state = .recover then changeLink s l { r with state := .fault } cause else setLink s l r

/-- A return packet is handled according to the link record as it stands (R121): ignored while the link is OFF or inhibited;
buffered when good and the buffer is empty; else a return error. -/
def takePacket (s : State) (l : Fin 24) (bytes : List RxByte) : State :=
  let r := s.lsv.links[l]
  if r.state = .off ∨ r.inhibit then s
  else
    match packetFault r bytes with
    | some cause => returnError s l cause
    | none => setLink s l { r with buffer := some ((bytes.map (·.data)).getD 1 0) }

/-- RETURN_PACKET_ARRIVAL (R121, R200): of the bytes that a link's return channel carries from a first start bit after an idle
line on, the packet that they begin with is cut at the rate held from that start bit, and is handled at the tick at which it
has arrived. Bytes after it belong to later packets. -/
def execReturnPacketArrival (l : Fin 24) (bytes : List RxByte) (s : State) : Result :=
  let rate := heldRate s l bytes
  let run := cutRun rate bytes
  .next (if run.isEmpty then s else takePacket (atTime s (arrivalTick rate run)) l run)

/-! ### The check (R123 to R126) -/

/-- The check of one link at the frame event of a count: its buffer is consumed and judged by its state; an OFF link is not
checked (R123 to R126). The content of a link joined at that very event is discarded, as a RECOVER link's is: its first check as
ACTIVE is made against the mark decided at that event (R126; log entry 29). -/
def checkLink (count : Word) (expected : Option Tag) (limit : Nat) (s : State) (l : Fin 24) : State :=
  let r := s.lsv.links[l]
  let r0 := { r with buffer := none }
  match r.state with
  | .off => s
  | .active =>
    if s.lsv.joined[l] = some count then setLink s l r0
    else
      match expected with
      | none => setLink s l r0
      | some tag =>
        if r.buffer = some tag then setLink s l { r0 with miss := 0 }
        else if limit ≤ r.miss + 1 then changeLink s l { r0 with miss := r.miss + 1, state := .fault } .missLimit
        else setLink s l { r0 with miss := r.miss + 1 }
  | .fault => if r.buffer.isSome then changeLink s l { r0 with miss := 0, state := .recover } .reportGood else s
  | .recover => setLink s l r0

/-- Every link checked, in ascending number (R132). -/
def checkLinks (s : State) (count : Word) : State :=
  (List.finRange 24).foldl (checkLink count s.lsv.expected s.cc.missLimit) s

/-- The mark notices at the front that wait for no frame event notice: applied in order, each setting the expected tag (R123).
The answer is the expected tag and the notices left. -/
def applyMarks (frames : List FrameNotice) (expected : Option Tag) : List MarkNotice → Option Tag × List MarkNotice
  | [] => (expected, [])
  | m :: rest =>
    if frames.any (fun f => f.count == m.count) then (expected, m :: rest) else applyMarks frames (some m.mark.tag) rest

/-- Every mark notice that the frame event notices taken so far allow is applied (R123). -/
def applyDueMarks (s : State) : State :=
  let r := applyMarks s.lsv.frames s.lsv.expected s.lsv.marks
  { s with lsv := { s.lsv with expected := r.1, marks := r.2 } }

/-- A frame event notice is taken: no join of its event waits any more for its check (R126). -/
def noticeTaken (s : State) (count : Word) : State :=
  { s with lsv := { s.lsv with joined := tabulate fun l => if s.lsv.joined[l] = some count then none else s.lsv.joined[l] } }

/-- The Link Supervisor acts on a frame event notice: with the wall running it makes its check (R123). -/
def supervise (s : State) (count : Word) : State := noticeTaken (if s.cc.running then checkLinks s count else s) count

/-- LINK_CHECK (R123): the Link Supervisor takes the oldest frame event notice given to it and, if the wall is running,
makes its check. The mark notices of earlier events are applied first, so that the check is made against the mark of the last
event before this one at which marks were sent. -/
def execLinkCheck (s : State) : Result :=
  match s.lsv.frames with
  | [] => .next s
  | n :: rest =>
    let s1 := applyDueMarks s
    .next (supervise { s1 with lsv := { s1.lsv with frames := rest } } n.count)

/-- MARK_NOTICE (R123): the oldest mark notice is applied, once the frame event notice of its count has been taken; before
that, nothing changes (log entry 5). -/
def execMarkNotice (s : State) : Result :=
  match s.lsv.marks with
  | [] => .next s
  | m :: rest =>
    if s.lsv.frames.any (fun f => f.count == m.count) then .next s
    else .next { s with lsv := { s.lsv with marks := rest, expected := some m.mark.tag } }

/-! ### Link enable, link clear, join (R126, R129, R130) -/

/-- The link enable cleared: the link enters OFF and its buffer is emptied; the count, flags and inhibit stay (R129). -/
def linkDisabled (s : State) (l : Fin 24) : State :=
  changeLink s l { s.lsv.links[l] with state := .off, buffer := none } .disabled

/-- The link enable set: the link enters RECOVER with miss count 0; the flags and inhibit stay (R129). -/
def linkEnabled (s : State) (l : Fin 24) : State :=
  changeLink s l { s.lsv.links[l] with state := .recover, miss := 0 } .enabled

/-- A link record after a link clear names it (R130). -/
def LinkRecord.cleared (r : LinkRecord) : LinkRecord :=
  { r with checkError := false, framingError := false, overrun := false, inhibit := false, miss := 0, buffer := none }

/-- The link clear command with a mask of the 24 links (R130). -/
def clearLinks (s : State) (mask : Word) : State :=
  let links := tabulate fun l => if mask.getLsbD l.val then (s.lsv.links[l]).cleared else s.lsv.links[l]
  { s with lsv := { s.lsv with links := links } }

/-- A link's join at the frame event of a count is kept while the Link Supervisor has that event's notice still to take, so
that the event's own check does not judge the link (R126; log entry 29). -/
def noteJoin (s : State) (count : Word) (l : Fin 24) : State :=
  { s with lsv := { s.lsv with
      joined := put s.lsv.joined l (if s.lsv.frames.any (fun f => f.count == count) then some count else none) } }

/-- A link named in the join notice of a frame event's send start enters ACTIVE with miss count 0 (R126); one in another state
is not named. -/
def joinLink (count : Word) (s : State) (l : Fin 24) : State :=
  if (s.lsv.links[l]).state = .recover then
    changeLink (noteJoin s count l) l { s.lsv.links[l] with state := .active, miss := 0 } .joined
  else s

end Sys2Proof.Machine
end

