-- ==== Sys2Proof/Machine/ScanOut.lean ====
section
/-! DEFINITION. The Scan-Out Engine and the tile link transmitters (spec/05): sends, line fetch, the pixel law, packets, the
show gate, leaves and resend requests; the rows SCAN_OUT_FRAME_EVENT, LEAVE_NOTICE, RECOVER_NOTICE, WALL_GAIN_NOTICE,
PACKET_FINISH and SEGMENT_DATA_RETURN. -/

namespace Sys2Proof.Machine

/-! ### Packets (R109, R200, spec/10 section 10.8.6) -/

/-- The bytes of a tile link packet, in the order they are sent. -/
def Packet.bytes : Packet → List Byte
  | .line p =>
    [0x01, BitVec.ofNat 8 p.idx, BitVec.ofNat 8 (p.line / 256), BitVec.ofNat 8 p.line, p.tag, 0, 0, 0]
      ++ p.pixels.flatMap bytesHighFirst
  | .mark m => [0x02, if m.shows then 0x01 else 0x00, m.tag, 0, 0, 0, 0, 0]
  | .idle => [0x03, 0, 0, 0, 0, 0, 0, 0]

/-- Length of a packet in bytes: 8 + 4 × Tw for LINE, 8 for MARK and IDLE (R109). -/
def Packet.length : Packet → Nat
  | .line p => 8 + 4 * p.pixels.length
  | .mark _ => 8
  | .idle => 8

/-- The level of a tile link in bit time `j` of the packet in its shift, or of an empty shift (R110, R200). -/
def State.txLevel (s : State) (l : Fin 24) (j : Nat) : Bool :=
  match (s.tx[l]).shift with
  | none => idleLevel
  | some x => lineLevel x.packet.bytes j

/-- A packet begins to leave a link now: it ends after its bytes × (d + 1) ticks at the rate code in use (R109). -/
def beginPacket (s : State) (l : Fin 24) (p : Packet) : State :=
  setTx s l { s.tx[l] with shift := some ⟨p, s.now + p.length * s.cc.linkByteTicks l⟩ }

/-! ### The part of a link in the send -/

/-- The send's part of a link replaced; with no send, nothing. -/
def setPart (s : State) (l : Fin 24) (p : Option Part) : State :=
  match s.so.send with
  | none => s
  | some d => { s with so := { s.so with send := some { d with parts := put d.parts l p } } }

/-- The next line of a part in chain order: the next line of the tile, or line 0 of the next included tile (R105). -/
def Part.advance (p : Part) : Part :=
  if p.line + 1 < p.th then { p with line := p.line + 1, fetched := 0, assembly := [] }
  else { p with tileAt := p.tileAt + 1, line := 0, fetched := 0, assembly := [] }

/-- The assembly buffer holds a complete line: all Tw pixels in place (R107). -/
def Part.lineComplete (p : Part) : Bool := p.tileAt < p.tiles.length && p.tw ≤ p.assembly.length

/-- The tile a part is at. -/
def Part.tile (p : Part) : TileRec := p.tiles.getD p.tileAt ⟨0, 0, 0⟩

/-- The LINE packet of a part's complete line, with a send's tag (R107). -/
def Part.packet (p : Part) (tag : Tag) : LinePacket := ⟨p.tile.idx, p.line, tag, p.assembly⟩

/-- A LINE packet is the last of a part: the last line of its last included tile (R112). -/
def Part.lastLine (p : Part) (k : LinePacket) : Bool :=
  match p.tiles.getLast? with
  | none => false
  | some t => k.idx == t.idx && k.line + 1 == p.th

/-- The Scan-Out claim is raised if some link needs a fetch (R106). -/
def soRaise (s : State) : State := if anyNeedsFetch s then { s with so := { s.so with claim := true } } else s

/-- A waiting Scan-Out claim is withdrawn, with its count at 0 (R50, R52). -/
def soWithdraw (s : State) : State :=
  if s.so.claim then { s with so := { s.so with claim := false }, passed := { s.passed with scanOut := 0 } } else s

/-- A complete line waiting in the assembly buffer is placed in the stage if the stage is empty: the primed flag is set, the
starved flag cleared, the assembly buffer freed (R107, R113). -/
def placeLine (s : State) (l : Fin 24) : State :=
  match s.so.send with
  | none => s
  | some d =>
    match d.parts[l] with
    | none => s
    | some p =>
      if p.lineComplete ∧ (s.tx[l]).stage.isNone then
        let s1 := setTx s l { s.tx[l] with stage := some (p.packet d.tag) }
        let s2 := setScanLink s1 l { s1.so.links[l] with primed := true, starved := false }
        setPart s2 l (some p.advance)
      else s

/-! ### Line fetch (R105 to R108) -/

/-- The segment a part reads next: (y0 + l) × W/16 + x0/16 + j (R105). -/
def Part.nextSegment (columns : Nat) (p : Part) : Nat :=
  (p.tile.y0 + p.line) * columns + p.tile.x0 / 16 + p.fetched

/-- Link numbers in ascending order after the link served last, going on from 23 to 0 (R106). -/
def linksAfter (served : Fin 24) : List (Fin 24) := (List.range 24).map fun i => Fin.ofNat 24 (served.val + 1 + i)

/-- The link a granted Scan-Out claim serves: the lowest starved link that needs a fetch, else the first that needs one
after the link served last (R106). -/
def chooseLink (s : State) : Option (Fin 24) :=
  match (List.finRange 24).find? (fun l => (s.so.links[l]).starved && linkNeedsFetch s l) with
  | some l => some l
  | none => (linksAfter s.so.served).find? (linkNeedsFetch s)

/-- One component by the pixel law: floor(floor(p × (w + 1) / 256) × (t + 17) / 32) (R108). -/
def scaleComponent (p w t : Nat) : Nat := p * (w + 1) / 256 * (t + 17) / 32

/-- A canvas pixel word scaled for a link, its spare bits 0 (R108). -/
def scalePixel (gain : Byte) (trim : RGB) (px : Word) : Word :=
  let p := pixelRGB px
  pack [(scaleComponent p.r gain.toNat trim.r, 0), (scaleComponent p.g gain.toNat trim.g, 10),
    (scaleComponent p.b gain.toNat trim.b, 20)]

/-- A segment's data for a link is scaled into its assembly buffer; a complete line is placed in the stage (R107). -/
def assembleSegment (s : State) (l : Fin 24) (data : List Byte) : State :=
  match partOf s l with
  | none => s
  | some p =>
    let px := (pixelsOf data).map (scalePixel s.so.gain p.trim)
    soRaise (placeLine (setPart s l (some { p with assembly := p.assembly ++ px })) l)

/-- SEGMENT_DATA_RETURN (R107): the data of the Scan-Out read on the channel returns and the channel becomes free; data of a
link that has left or of an abandoned send is discarded. -/
def execSegmentDataReturn (s : State) : Result :=
  match s.channel with
  | .segmentRead l data discard =>
    let s1 := { s with channel := .free }
    .next (if discard then s1 else assembleSegment s1 l data)
  | _ => .next s

/-! ### Sends (R96, R101) -/

/-- The included tiles of a link's tile map, latched at a send start (R96). -/
def includedTiles (c : Shadow) (l : Fin 24) : List TileRec :=
  let w := c.tiles[l]
  let tw := field w[0] 8 10
  let th := field w[0] 18 10
  (List.finRange 16).filterMap fun r =>
    let v := w[r.val + 2]
    if r.val < field w[0] 3 5 ∧ v.getLsbD 31 ∧ field v 0 13 + tw ≤ c.width ∧ field v 16 12 + th ≤ c.height then
      some ⟨r.val, field v 0 13, field v 16 12⟩
    else none

/-- A link's part at a send start: its tile map latched, at its first included tile, line 0, nothing fetched, complete at
once if it has no included tile (R101). -/
def startPart (c : Shadow) (l : Fin 24) : Part where
  tiles := includedTiles c l
  tw := field (c.tiles[l])[0] 8 10
  th := field (c.tiles[l])[0] 18 10
  trim := ⟨field (c.tiles[l])[1] 0 4, field (c.tiles[l])[1] 8 4, field (c.tiles[l])[1] 16 4⟩
  tileAt := 0
  line := 0
  fetched := 0
  assembly := []
  complete := (includedTiles c l).isEmpty

/-- A link takes part in a send that starts: ACTIVE or RECOVER (R101). -/
def participates (s : State) (l : Fin 24) : Bool :=
  (s.lsv.links[l]).state == .active || (s.lsv.links[l]).state == .recover

/-- Every link's primed and starved flags cleared. -/
def clearScanFlags (v : Vector ScanLink 24) : Vector ScanLink 24 :=
  tabulate fun l => { v[l] with primed := false, starved := false }

/-- Every link's starved flag cleared, as a send ends (R113). -/
def clearStarved (v : Vector ScanLink 24) : Vector ScanLink 24 := tabulate fun l => { v[l] with starved := false }

/-- A send of a bank starts at the frame event of a count: tag, resend request cleared, wall gain of the active look and tile
maps latched, flags cleared, RECOVER links joined, line fetches begun (R101, R126). -/
def startSend (s : State) (count : Word) (kind : SendKind) (k : Fin 4) : State :=
  let d : Send := { kind := kind, bank := k, tag := s.so.tag + 1,
                    parts := tabulate fun l => if participates s l then some (startPart s.cc l) else none }
  let s1 := { s with so := { s.so with
      send := some d, tag := s.so.tag + 1, resend := false, gain := (s.cc.look s.tu.look).wallGain,
      links := clearScanFlags s.so.links } }
  soRaise ((List.finRange 24).foldl (joinLink count) s1)

/-- A send start attempt at the frame event of a count: the READY bank, else the shown bank if a resend is requested, else none (R101). -/
def attemptSend (s : State) (count : Word) : State :=
  match sendReady s with
  | (s1, some k) => startSend s1 count .first k
  | (_, none) =>
    if s.so.resend then
      match resendShown s with
      | (s1, some k) => startSend s1 count .again k
      | (_, none) => s
    else s

/-! ### Frame events (R98, R99) -/

/-- Every participating link of a send is complete (R99, R104). -/
def sendComplete (d : Send) : Bool :=
  (List.finRange 24).all fun l =>
    match d.parts[l] with
    | none => true
    | some p => p.complete

/-- The late count of each participating link whose part is not complete rises by one (R99). -/
def raiseLate (d : Send) (v : Vector ScanLink 24) : Vector ScanLink 24 :=
  tabulate fun l =>
    match d.parts[l] with
    | none => v[l]
    | some p => if p.complete then v[l] else { v[l] with late := (v[l]).late + 1 }

/-- A mark becomes a transmitter's pending mark, or moves into an empty shift at once; a disabled link is given none
(R111). -/
def giveMark (m : Mark) (s : State) (l : Fin 24) : State :=
  if !s.cc.linkEnable l then s
  else if (s.tx[l]).shift.isNone then beginPacket s l (.mark m)
  else setTx s l { s.tx[l] with mark := some m }

/-- A mark given to every enabled link, and the mark notice given to the Link Supervisor (R98). -/
def giveMarks (s : State) (n : FrameNotice) (m : Mark) : State :=
  let s1 := (List.finRange 24).foldl (giveMark m) s
  { s1 with lsv := { s1.lsv with marks := s1.lsv.marks ++ [⟨n.count, m⟩] } }

/-- A send that passes the show gate ends: the bank is shown, a FIRST send gives a show notice, its tag is the last shown
(R99). -/
def endSend (s : State) (d : Send) : State :=
  let s1 := (showSent s).1
  { s1 with
    so := { s1.so with send := none, lastShown := d.tag, links := clearStarved s1.so.links }
    le := { s1.le with shows := if d.kind = .first then s1.le.shows + 1 else s1.le.shows } }

/-- The show gate: the state after its decision, and the mark (R99). -/
def showGate (s : State) (d : Send) : State × Mark :=
  if sendComplete d then (endSend s d, ⟨true, d.tag⟩)
  else ({ s with so := { s.so with links := raiseLate d s.so.links } }, ⟨false, s.so.lastShown⟩)

/-- The Scan-Out Engine acts on a frame event notice (R98): nothing while the wall is stopped; HOLD and no more while LOST
(R90); else the mark by the show gate, or HOLD with no send in progress, and then a send start attempt if none is. -/
def scanOutFrame (s : State) (n : FrameNotice) : State :=
  if !s.cc.running then s
  else if n.lock = .lost then giveMarks s n ⟨false, s.so.lastShown⟩
  else
    match s.so.send with
    | none => attemptSend (giveMarks s n ⟨false, s.so.lastShown⟩) n.count
    | some d =>
      let g := showGate s d
      let s1 := giveMarks g.1 n g.2
      if s1.so.send.isNone then attemptSend s1 n.count else s1

/-- SCAN_OUT_FRAME_EVENT (R98): the Scan-Out Engine takes the oldest frame event notice given to it. -/
def execScanOutFrameEvent (s : State) : Result :=
  match s.so.frames with
  | [] => .next s
  | n :: rest => .next (scanOutFrame { s with so := { s.so with frames := rest } } n)

/-! ### Leaves and resend requests (R103, R115) -/

/-- A read on the channel for a link is to be discarded when its data returns (R103). -/
def discardRead (c : Channel) (l : Fin 24) : Channel :=
  match c with
  | .segmentRead l' data d => .segmentRead l' data (d || decide (l' = l))
  | c => c

/-- A link leaves the send in progress: its part and assembly buffer go, its stage is emptied, its flags are cleared, its
outstanding read is discarded, and the claim is withdrawn if no link needs a fetch; a link that takes no part changes
nothing (R103, R106). -/
def leaveSend (s : State) (l : Fin 24) : State :=
  match partOf s l with
  | none => s
  | some _ =>
    let s1 := setPart s l none
    let s2 := setTx s1 l { s1.tx[l] with stage := none }
    let s3 := setScanLink s2 l { s2.so.links[l] with primed := false, starved := false }
    let s4 := { s3 with channel := discardRead s3.channel l }
    if anyNeedsFetch s4 then s4 else soWithdraw s4

/-- LEAVE_NOTICE (R103): the Scan-Out Engine takes the oldest leave notice given to it. -/
def execLeaveNotice (s : State) : Result :=
  match s.so.leaves with
  | [] => .next s
  | l :: rest => .next (leaveSend { s with so := { s.so with leaves := rest } } l)

/-- The resend request raised, or left standing (R115). -/
def raiseResend (s : State) : State := { s with so := { s.so with resend := true } }

/-- RECOVER_NOTICE (R128, R115): the oldest recover notice is taken and raises the resend request. -/
def execRecoverNotice (s : State) : Result :=
  match s.so.recovers with
  | [] => .next s
  | _ :: rest => .next (raiseResend { s with so := { s.so with recovers := rest } })

/-- A wall gain notice given to the Scan-Out Engine (R143, R148). -/
def giveGain (s : State) (g : Byte) : State := { s with so := { s.so with gains := s.so.gains ++ [g] } }

/-- WALL_GAIN_NOTICE (R115): the oldest wall gain notice is taken and raises the resend request if its gain differs from the
latched wall gain. -/
def execWallGainNotice (s : State) : Result :=
  match s.so.gains with
  | [] => .next s
  | g :: rest =>
    let s1 := { s with so := { s.so with gains := rest } }
    .next (if g = s.so.gain then s1 else raiseResend s1)

/-! ### Abandoning a send (R117) -/

/-- The data of a Scan-Out read on the channel is to be discarded when it returns (R117). -/
def discardSegmentRead (c : Channel) : Channel :=
  match c with
  | .segmentRead l data _ => .segmentRead l data true
  | c => c

/-- The Scan-Out Engine abandons any send: claim withdrawn, send record and assembly buffers gone, stages emptied, flags and
resend request cleared, an outstanding read discarded (R117). -/
def abandonSend (s : State) : State :=
  let s1 := soWithdraw s
  { s1 with
    so := { s1.so with send := none, links := clearScanFlags s1.so.links, resend := false }
    tx := tabulate fun l => { s1.tx[l] with stage := none }
    channel := discardSegmentRead s1.channel }

/-- The wall reset, and the stopping of the wall, at the Bank Manager and the Scan-Out Engine in one event (R30, R117). -/
def resetWall (s : State) : State := abandonSend (freeAllBanks s)

/-! ### The transmitter (R110 to R114) -/

/-- A finished LINE packet completes its link's part if it is the part's last, of the send in progress (R112). -/
def finishLine (s : State) (l : Fin 24) (k : LinePacket) : State :=
  match s.so.send with
  | none => s
  | some d =>
    match d.parts[l] with
    | none => s
    | some p =>
      if k.tag = d.tag ∧ p.lastLine k then setPart s l (some { p with complete := true }) else s

/-- The packet in a shift is handed to the completion test if it is a LINE (R110, R112). -/
def finishPacket (s : State) (l : Fin 24) (p : Packet) : State :=
  match p with
  | .line k => finishLine s l k
  | .mark _ => s
  | .idle => s

/-- The starvation test of an IDLE packet that begins: a participating link with its part incomplete, primed, its stage
empty and not starved becomes starved (R113). -/
def starveTest (s : State) (l : Fin 24) : State :=
  match partOf s l with
  | none => s
  | some p =>
    let r := s.so.links[l]
    if !p.complete ∧ r.primed ∧ (s.tx[l]).stage.isNone ∧ !r.starved then
      setScanLink s l { r with starved := true, starves := r.starves + 1 }
    else s

/-- An IDLE packet begins on a link (R110, R113). -/
def beginIdle (s : State) (l : Fin 24) : State := starveTest (beginPacket s l .idle) l

/-- What follows a finished packet on an enabled link: the pending mark, else the staged LINE (and the stage is filled again
from the assembly buffer), else IDLE; on a disabled link, nothing (R110, R107). -/
def nextPacket (s : State) (l : Fin 24) : State :=
  let x := s.tx[l]
  if !s.cc.linkEnable l then setTx s l { x with shift := none }
  else
    match x.mark with
    | some m => beginPacket (setTx s l { x with mark := none }) l (.mark m)
    | none =>
      match x.stage with
      | some k => soRaise (placeLine (beginPacket (setTx s l { x with stage := none }) l (.line k)) l)
      | none => beginIdle s l

/-- PACKET_FINISH (R110): the packet in a link's shift ends, at the tick its bits end; it is handed to its test and the next
packet begins. An empty shift has no packet to finish. -/
def execPacketFinish (l : Fin 24) (s : State) : Result :=
  match (s.tx[l]).shift with
  | none => .next s
  | some x => .next (nextPacket (finishPacket (atTime s x.ends) l x.packet) l)

/-- A link enable cleared acts on the transmitter: stage emptied, pending mark discarded (R114). A complete line that waits in
the assembly buffer is not placed in the stage emptied so: R107 names R110's emptying alone, and the leave notice of the same
write discards the line (DEDUCED, log entry 28). -/
def txDisabled (s : State) (l : Fin 24) : State := setTx s l { s.tx[l] with stage := none, mark := none }

/-- A link enable set acts on the transmitter: with the shift empty, an IDLE packet begins at once (R114). -/
def txEnabled (s : State) (l : Fin 24) : State := if (s.tx[l]).shift.isNone then beginIdle s l else s

end Sys2Proof.Machine
end

