-- ==== Sys2Proof/Machine/Tally.lean ====
section
/-! DEFINITION. The Tally Unit (spec/07): edges, the acknowledge, the choice of the active camera and look; the rows TALLY_EDGE
and TALLY_SAMPLE. -/

namespace Sys2Proof.Machine

/-- An edge to level `high` is selected by an edge mode code: RISE 1, FALL 2, BOTH 3 (R136). -/
def edgeSelected (mode : Nat) (high : Bool) : Bool :=
  if high then mode == 1 || mode == 3 else mode == 2 || mode == 3

/-- A selected edge: with the pending flag clear it is set and TALLY_EDGE is reported; with it set the overrun flag is set
(R137). -/
def selectedEdge (s : State) (i : Fin 8) (high : Bool) : State :=
  if s.tu.pending.getLsbD i.val then { s with tu := { s.tu with overrun := setBit s.tu.overrun i true } }
  else
    report { s with tu := { s.tu with pending := setBit s.tu.pending i true } } .tallyEdge (i.val + 1)
      (pack [(bit (!high), 0), (bit high, 1)]) 0

/-- TALLY_EDGE (R136): the level on an input becomes `high`. A change from the level seen is an edge: the level seen is set
and a selected edge is handled; no change is no edge. -/
def execTallyEdge (i : Fin 8) (high : Bool) (s : State) : Result :=
  if s.tu.levels.getLsbD i.val = high then .next s
  else
    let s1 := { s with tu := { s.tu with levels := setBit s.tu.levels i high } }
    .next (if edgeSelected (s.cc.edgeMode i) high then selectedEdge s1 i high else s1)

/-- The tally acknowledge with a mask of the inputs: their pending and overrun flags are cleared (R138). -/
def tallyAck (s : State) (mask : BitVec 8) : State :=
  { s with tu := { s.tu with pending := s.tu.pending &&& ~~~ mask, overrun := s.tu.overrun &&& ~~~ mask } }

/-- The rank in use, highest first (R140). -/
def Shadow.rank (c : Shadow) : List (Fin 8) := (List.range 8).map c.rankAt

/-- The active camera: the first input of the rank that is high and whose edge mode is not OFF (R142). -/
def chooseCamera (c : Shadow) (levels : BitVec 8) : Option (Fin 8) :=
  c.rank.find? fun i => levels.getLsbD i.val && c.edgeMode i != 0

/-- The active look for an active camera: its mapped look, or the default look with no active camera (R142). -/
def chooseLook (c : Shadow) (camera : Option (Fin 8)) : Look :=
  match camera with
  | some i => c.cameraLook i
  | none => c.defaultLook

/-- A look notice or a lighting gains notice given to the Lighting Engine, behind those given before (R143, R148). -/
def giveGains (s : State) (n : GainsNotice) : State := { s with le := { s.le with gainNotices := s.le.gainNotices ++ [n] } }

/-- The sample: the active camera and look are chosen, and a changed look gives a wall gain notice and a look notice
carrying its values (R142, R143). -/
def tallySample (s : State) : State :=
  let camera := chooseCamera s.cc s.tu.levels
  let look := chooseLook s.cc camera
  let s1 := { s with tu := { s.tu with camera := camera, look := look } }
  if look = s.tu.look then s1
  else giveGains (giveGain s1 (s.cc.look look).wallGain) ⟨.look, (s.cc.look look).gains⟩

/-- TALLY_SAMPLE (R142): the Tally Unit takes the oldest frame event notice given to it and samples. -/
def execTallySample (s : State) : Result :=
  match s.tu.frames with
  | [] => .next s
  | _ :: rest => .next (tallySample { s with tu := { s.tu with frames := rest } })

end Sys2Proof.Machine
end

