-- ==== Sys2Proof/Machine/Lighting.lean ====
section
/-! DEFINITION. The Lighting Engine and the lamp links (spec/08, spec/09): targets, retargets, fades, composition, the lamp
link transmitters; the rows SHOW_NOTICE, LOOK_NOTICE, LIGHTING_GAINS_NOTICE, ENTRY_NOTICE, FADE_STEP and LAMP_UNIT_FINISH. -/

namespace Sys2Proof.Machine

/-! ### Targets and fades (R156 to R164) -/

/-- The target law before the clamp: floor(mean × q × (t + 17) / 64) (R156). -/
def targetRaw (mean q t : Nat) : Nat := mean * q * (t + 17) / 64

/-- A new target: held, or a colour with the clipped flag it sets. -/
inductive Retarget where
  | held
  | to (target : RGB) (clipped : Bool)
  deriving DecidableEq, Repr

/-- The target of a ZONE fixture from its zone's mean, and its clipped flag (R156, R157). -/
def zoneTarget (mean gains trim : RGB) : Retarget :=
  let r := targetRaw mean.r gains.r trim.r
  let g := targetRaw mean.g gains.g trim.g
  let b := targetRaw mean.b gains.b trim.b
  .to ⟨min 65535 r, min 65535 g, min 65535 b⟩ (65535 < r || 65535 < g || 65535 < b)

/-- What a retarget gives the fixture of an entry: OFF 0, ZONE by its zone's mean or held without one, FIXED its levels
(R156, R158, R159). -/
def retargetOf (entry : Vector Word 4) (gains : RGB) (answer : Option (Fin 4 × Vector (Option RGB) 64)) : Retarget :=
  if fixMode entry = 1 then
    match answer with
    | none => .held
    | some (_, means) =>
      match means[fixZone entry] with
      | none => .held
      | some mean => zoneTarget mean gains (fixTrim entry)
  else if fixMode entry = 2 then .to (fixLevels entry) false
  else .to RGB.zero false

/-- The fade length D of a fade code, in frame events (R163). -/
def fadeLength (f : Nat) : Nat := if f = 0 then 1 else if f ≤ 9 then 4 * f else 40

/-- |x - y|. -/
def absDiff (x y : Nat) : Nat := if x ≤ y then y - x else x - y

/-- ceil(|target - current| / D) (R164). -/
def fadeStepSize (target current d : Nat) : Nat := (absDiff target current + (d - 1)) / d

/-- A fixture given a new target: no fade if it equals the current level, else a fade of length D from the level as it
stands (R164, R167). -/
def Fixture.fadeTo (f : Fixture) (target : RGB) (clipped : Bool) (d : Nat) : Fixture :=
  if target = f.level then { f with target := target, clipped := clipped, step := RGB.zero, remaining := 0 }
  else
    { f with
      target := target
      clipped := clipped
      step := ⟨fadeStepSize target.r f.level.r d, fadeStepSize target.g f.level.g d, fadeStepSize target.b f.level.b d⟩
      remaining := d }

/-- A fixture retargeted: unchanged while its target is held (R158), else the fade set (R164). -/
def Fixture.retarget (f : Fixture) (entry : Vector Word 4) (gains : RGB)
    (answer : Option (Fin 4 × Vector (Option RGB) 64)) : Fixture :=
  match retargetOf entry gains answer with
  | .held => f
  | .to target clipped => f.fadeTo target clipped (fadeLength (fixFade entry))

/-- Every ZONE fixture retargeted, all from one mean query, with the gains in use (R160, R161). -/
def retargetZones (s : State) : State :=
  let answer := meanQuery s
  let fixtures := tabulate fun i =>
    if fixMode s.cc.fixtures[i] = 1 then (s.le.fixtures[i]).retarget s.cc.fixtures[i] s.le.gains answer
    else s.le.fixtures[i]
  { s with le := { s.le with fixtures := fixtures } }

/-- One fixture retargeted, in whatever mode (R160). -/
def retargetOne (s : State) (i : Fin 128) : State :=
  setFixture s i ((s.le.fixtures[i]).retarget s.cc.fixtures[i] s.le.gains (meanQuery s))

/-- SHOW_NOTICE (R160): a show notice is taken, and every ZONE fixture retargeted. -/
def execShowNotice (s : State) : Result :=
  match s.le.shows with
  | 0 => .next s
  | n + 1 => .next (retargetZones { s with le := { s.le with shows := n } })

/-- The oldest look notice or lighting gains notice is taken, if it is of a kind: the gains in use become its gains, then every
ZONE fixture is retargeted. While the oldest is of the other kind nothing changes, so that the notices are taken in the order of
giving and the last retarget uses the active look's gains (R144, R148, R160; log entries 5 and 6). -/
def takeGains (kind : GainsKind) (s : State) : State :=
  match s.le.gainNotices with
  | [] => s
  | n :: rest =>
    if n.kind = kind then retargetZones { s with le := { s.le with gainNotices := rest, gains := n.gains } } else s

/-- LOOK_NOTICE (R160): the look notice that waits first is taken. -/
def execLookNotice (s : State) : Result := .next (takeGains .look s)

/-- LIGHTING_GAINS_NOTICE (R160): the lighting gains notice that waits first is taken. -/
def execLightingGainsNotice (s : State) : Result := .next (takeGains .lights s)

/-- ENTRY_NOTICE (R160): the oldest entry notice is taken, and the fixture it names retargeted from its entry. -/
def execEntryNotice (s : State) : Result :=
  match s.le.entries with
  | [] => .next s
  | i :: rest => .next (retargetOne { s with le := { s.le with entries := rest } } i)

/-! ### The fade step (R165) -/

/-- One component moved by the step towards its target, and to the target if the step would carry it past (R165). -/
def stepComponent (level target step : Nat) : Nat :=
  if level < target then min (level + step) target
  else if target < level then max (level - step) target
  else level

/-- A fixture after one fade step: unchanged unless fading; at its target when the remaining frames reach 0 (R165). -/
def Fixture.stepped (f : Fixture) : Fixture :=
  if f.remaining = 0 then f
  else
    { f with
      remaining := f.remaining - 1
      level := if f.remaining = 1 then f.target
        else ⟨stepComponent f.level.r f.target.r f.step.r, stepComponent f.level.g f.target.g f.step.g,
          stepComponent f.level.b f.target.b f.step.b⟩ }

/-- One fade step of every fixture (R165). -/
def stepFixtures (s : State) : State :=
  { s with le := { s.le with fixtures := tabulate fun i => (s.le.fixtures[i]).stepped } }

/-! ### Composition (R154, R175) -/

/-- The six slot bytes of a level: red, green, blue, each high byte first (R154). -/
def levelBytes (x : RGB) : List Byte :=
  [BitVec.ofNat 8 (x.r / 256), BitVec.ofNat 8 x.r, BitVec.ofNat 8 (x.g / 256), BitVec.ofNat 8 x.g,
    BitVec.ofNat 8 (x.b / 256), BitVec.ofNat 8 x.b]

/-- Fixture `i` is a candidate for a lamp link and covers slot `j` (R175). -/
def covers (c : Shadow) (l : Fin 2) (j : Nat) (i : Fin 128) : Bool :=
  fixLink c.fixtures[i] == l && placed c i && fixSlot c.fixtures[i] ≤ j && j < fixSlot c.fixtures[i] + 6

/-- The byte of a slot: from the highest-numbered candidate that covers it, else 0 (R175). -/
def slotByte (s : State) (l : Fin 2) (j : Nat) : Byte :=
  match (List.finRange 128).reverse.find? (covers s.cc l j) with
  | none => 0
  | some i => (levelBytes (s.le.fixtures[i]).level).getD (j - fixSlot s.cc.fixtures[i]) 0

/-- Slots 0 to S - 1 of a lamp link. -/
def slotBytes (s : State) (l : Fin 2) : List Byte := (List.range (s.cc.lampSlots l)).map (slotByte s l)

/-- The lamp frame of slot bytes: 0x5A, the slot count and the slots, then the sum of the slot bytes modulo 65,536, two-byte
fields high byte first (R175, R201). -/
def lampFrame (slots : List Byte) : List Byte :=
  let sum := (slots.map BitVec.toNat).sum
  [0x5A, BitVec.ofNat 8 (slots.length / 256), BitVec.ofNat 8 slots.length] ++ slots
    ++ [BitVec.ofNat 8 (sum / 256), BitVec.ofNat 8 sum]

/-- A composed frame handed to a lamp link's stage: a frame already there is discarded and counted (R176). -/
def LampLink.staged (x : LampLink) (frame : List Byte) : LampLink :=
  { x with stage := some frame, replaced := if x.stage.isSome then x.replaced + 1 else x.replaced }

/-- A lamp frame composed for a lamp link whose enable is set (R170, R175). -/
def composeLamp (s : State) (l : Fin 2) : State :=
  if s.cc.lampEnable l then setLamp s l ((s.lamps[l]).staged (lampFrame (slotBytes s l))) else s

/-- The Lighting Engine's handling of a frame event notice, in one step: the fade step unless it carries LOST, then the
composition for both lamp links (R165, R168 to R170). -/
def lightingFrame (s : State) (n : FrameNotice) : State :=
  let s1 := if n.lock = .lost then s else stepFixtures s
  composeLamp (composeLamp s1 0) 1

/-- FADE_STEP (R165): the Lighting Engine takes the oldest frame event notice given to it. -/
def execFadeStep (s : State) : Result :=
  match s.le.frames with
  | [] => .next s
  | n :: rest => .next (lightingFrame { s with le := { s.le with frames := rest } } n)

/-! ### Lamp link transmitters (R173, R177 to R180) -/

/-- The level of a lamp link in bit time `j` of the unit in its shift, or of an empty shift: a frame's bits, else idle level
(R173, R177, R200, R201). -/
def State.lampLevel (s : State) (l : Fin 2) (j : Nat) : Bool :=
  match (s.lamps[l]).shift with
  | .empty => idleLevel
  | .frame bytes _ => lineLevel bytes j
  | .fill _ => idleLevel

/-- A staged frame moves into the shift and begins now: S + 5 bytes at the rate in use (R173, R177). -/
def beginLampFrame (s : State) (l : Fin 2) (frame : List Byte) : State :=
  setLamp s l { s.lamps[l] with
    shift := .frame frame (s.now + frame.length * s.cc.lampByteTicks l), stage := none }

/-- A fill unit begins now: one byte time (R173). -/
def beginFill (s : State) (l : Fin 2) : State :=
  setLamp s l { s.lamps[l] with shift := .fill (s.now + s.cc.lampByteTicks l) }

/-- What follows a finished unit: the staged frame, else a fill unit, on an enabled link; nothing on a disabled one
(R177). -/
def nextLampUnit (s : State) (l : Fin 2) : State :=
  if !s.cc.lampEnable l then setLamp s l { s.lamps[l] with shift := .empty }
  else
    match (s.lamps[l]).stage with
    | some frame => beginLampFrame s l frame
    | none => beginFill s l

/-- LAMP_UNIT_FINISH (R177): the unit in a lamp link's shift ends, at its tick, and the next unit follows. An empty shift has
no unit to finish. -/
def execLampUnitFinish (l : Fin 2) (s : State) : Result :=
  match (s.lamps[l]).shift with
  | .empty => .next s
  | .frame _ ends => .next (nextLampUnit (atTime s ends) l)
  | .fill ends => .next (nextLampUnit (atTime s ends) l)

/-- A lamp link's enable cleared: its stage is emptied, without counting a replacement (R179). -/
def lampDisabled (s : State) (l : Fin 2) : State := setLamp s l { s.lamps[l] with stage := none }

/-- A lamp link's enable set: with the shift empty, a fill unit begins at once (R180). -/
def lampEnabled (s : State) (l : Fin 2) : State :=
  match (s.lamps[l]).shift with
  | .empty => beginFill s l
  | .frame _ _ => s
  | .fill _ => s

end Sys2Proof.Machine
end

