-- ==== Sys2Proof/Machine/Reference.lean ====
section
/-! DEFINITION. The Reference Unit (spec/04): intervals, the frame event schedule, lock states and what the settings do to it;
the rows FRAME_EVENT, REFERENCE_PULSE and PULSE_MISSING. -/

namespace Sys2Proof.Machine

/-- The Reference Unit replaced. -/
def setRu (s : State) (r : RefUnit) : State := { s with ru := r }

/-- The causes of REF_STATE (R89). -/
inductive RefCause where
  | pulsesGood
  | intervalBad
  | pulseMissing
  | holdoverLimit
  | modeWrite
  | settingWrite
  deriving DecidableEq, Repr

/-- REF_STATE cause code (spec/10 section 10.8.5). -/
def refCauseCode : RefCause → Nat
  | .pulsesGood => 0
  | .intervalBad => 1
  | .pulseMissing => 2
  | .holdoverLimit => 3
  | .modeWrite => 4
  | .settingWrite => 5

/-- REF_STATE: the lock state and fault latch as they stand, the previous lock state and the cause (R89). -/
def reportRef (s : State) (prev : Lock) (cause : RefCause) : State :=
  report s .refState s.ru.lock.code (pack [(prev.code, 0), (refCauseCode cause, 8), (bit s.ru.fault, 16)]) 0

/-! ### The schedule (R79) -/

/-- A time put into the schedule, in ascending order, after any equal time. -/
def schedInsert : List Sched → Sched → List Sched
  | [], e => [e]
  | x :: xs, e => if e.time < x.time then e :: x :: xs else x :: schedInsert xs e

/-- The schedule without its free-running times. -/
def dropFreeRun (l : List Sched) : List Sched := l.filter fun e => !e.freeRun

/-- A free-running time is in the schedule. -/
def hasFreeRun (l : List Sched) : Bool := l.any (·.freeRun)

/-- A pulse-scheduled time added (R81, R82). -/
def RefUnit.addPulse (r : RefUnit) (t : Nat) : RefUnit := { r with schedule := schedInsert r.schedule ⟨t, false⟩ }

/-- A free-running time added (R79, R80). -/
def RefUnit.addFree (r : RefUnit) (t : Nat) : RefUnit := { r with schedule := schedInsert r.schedule ⟨t, true⟩ }

/-- The tick of the last frame event, plus `d`; with no frame event yet, which the spec gives no value for, a free number of
ticks from now, of which one is drawn (log entry 12). -/
def lastFramePlus (s : State) (d : Nat) : Nat :=
  match s.ru.lastFrame with
  | some t => t + d
  | none => s.now + Config.freeDelay s.draws

/-- The count of free values drawn, after `lastFramePlus` has been asked. -/
def drawnAfter (s : State) : Nat := if s.ru.lastFrame.isSome then s.draws else s.draws + 1

/-! ### Pulses (R77, R78, R81 to R83) -/

/-- An interval is good: between Pn - Tt and Pn + Tt, both ends included (R77). -/
def intervalGood (c : Shadow) (d : Nat) : Bool := c.period ≤ d + c.tolerance && d ≤ c.period + c.tolerance

/-- The unit enters LOCKED at a pulse at `t` whose good interval `d` completes the count (R81). -/
def enterLocked (s : State) (t d : Nat) : State :=
  let r := { s.ru with
    lock := .locked, good := 0, held := 0, coast := d, schedule := dropFreeRun s.ru.schedule,
    watch := some (t + s.cc.period + s.cc.tolerance) }
  reportRef (setRu s (r.addPulse (t + s.cc.phaseOffset))) s.ru.lock .pulsesGood

/-- The unit leaves LOCKED for HOLDOVER: fault latch set, counts 0, watch stopped, one free-running time added one coast
period after the latest pulse-scheduled time or, with none, after the last frame event (R82, R83). -/
def enterHoldover (s : State) (cause : RefCause) : State :=
  let r := { s.ru with lock := .holdover, held := 0, good := 0, fault := true, watch := none }
  match r.schedule.getLast? with
  | some e => reportRef (setRu s (r.addFree (e.time + r.coast))) s.ru.lock cause
  | none => reportRef { setRu s (r.addFree (lastFramePlus s r.coast)) with draws := drawnAfter s } s.ru.lock cause

/-- A good interval `d` at tick `t` outside LOCKED: the good count rises, and locks the unit at A (R78). -/
def countGood (s : State) (t d : Nat) : State :=
  if s.cc.acquireCount ≤ s.ru.good + 1 then enterLocked s t d
  else setRu s { s.ru with good := s.ru.good + 1 }

/-- An interval `d` that ends at a pulse at `t`, by the lock state (R78, R82). -/
def takeInterval (s : State) (t d : Nat) : State :=
  if s.ru.lock = .locked then
    if intervalGood s.cc d then
      setRu s ({ s.ru with coast := d, watch := some (t + s.cc.period + s.cc.tolerance) }.addPulse (t + s.cc.phaseOffset))
    else enterHoldover s .intervalBad
  else if intervalGood s.cc d then countGood s t d
  else setRu s { s.ru with good := 0 }

/-- A pulse at tick `t` in EXTERNAL mode: the last pulse time becomes `t`, and the interval, if the last pulse time was
present, is taken (R77). -/
def takePulse (s : State) (t : Nat) : State :=
  let s1 := setRu s { s.ru with lastPulse := some t }
  match s.ru.lastPulse with
  | none => s1
  | some t0 => takeInterval s1 t (t - t0)

/-- REFERENCE_PULSE (R77): a pulse arrives at tick `t`; ignored in INTERNAL mode. -/
def execReferencePulse (t : Nat) (s : State) : Result :=
  let s1 := atTime s t
  .next (if s.cc.modeInternal then s1 else takePulse s1 s1.now)

/-- PULSE_MISSING (R82): the pulse watch expires while LOCKED, and the unit enters HOLDOVER. A stopped watch does not
expire. -/
def execPulseMissing (s : State) : Result :=
  match s.ru.watch with
  | none => .next s
  | some t => if s.ru.lock = .locked then .next (enterHoldover (atTime s t) .pulseMissing) else .next s

/-! ### Frame events (R79, R80, R83) -/

/-- In HOLDOVER the holdover count rises, and at Hl the unit enters LOST and reports it (R83). -/
def holdoverCount (s : State) : State :=
  if s.ru.lock = .holdover then
    let s1 := setRu s { s.ru with held := s.ru.held + 1 }
    if s.cc.holdoverLimit ≤ s.ru.held + 1 then
      reportRef (setRu s1 { s1.ru with lock := .lost }) .holdover .holdoverLimit
    else s1
  else s

/-- The frame event notice handed to the six blocks that act on it (R80). -/
def giveFrame (s : State) (n : FrameNotice) : State :=
  { s with
    so := { s.so with frames := s.so.frames ++ [n] }
    lsv := { s.lsv with frames := s.lsv.frames ++ [n] }
    tu := { s.tu with frames := s.tu.frames ++ [n] }
    le := { s.le with frames := s.le.frames ++ [n] }
    rw := { s.rw with frames := s.rw.frames ++ [n] }
    wd := { s.wd with frames := s.wd.frames ++ [n] } }

/-- A frame event produced at tick `t` from a scheduled time: the change of state it causes, the counter, the last frame
event time, the free run's successor, and the notices, in that order (R80). -/
def produceFrame (s : State) (t : Nat) (freeRun : Bool) : State :=
  let s1 := holdoverCount s
  let r := { s1.ru with count := s1.ru.count + 1, lastFrame := some t }
  let s2 := setRu s1 (if freeRun then r.addFree (t + r.coast) else r)
  giveFrame s2 ⟨s2.ru.count, s2.ru.lock⟩

/-- A scheduled time reached at tick `t` is dropped: the last frame event is present and less than floor(Pn / 4) ticks ago
(R79). -/
def dropsEvent (s : State) (t : Nat) : Bool :=
  match s.ru.lastFrame with
  | none => false
  | some f => t < f + s.cc.period / 4

/-- The time base reaches the earliest scheduled time `e`, with `rest` after it: dropped, a free-running time leaving its
successor, or produced (R79). A time already past is reached now (log entry 14). -/
def reachScheduled (s : State) (e : Sched) (rest : List Sched) : State :=
  let s1 := atTime (takeAllReports s) e.time
  let s2 := setRu s1 { s1.ru with schedule := rest }
  if dropsEvent s2 s2.now then
    (if e.freeRun then setRu s2 (s2.ru.addFree (e.time + s2.ru.coast)) else s2)
  else produceFrame s2 s2.now e.freeRun

/-- FRAME_EVENT (R79, R80): the time base reaches the earliest scheduled time. The reports handed over before it are taken
first, so that each record carries the count its maker's rule names (R89, R132, R137; log entry 7). With nothing scheduled,
nothing changes. -/
def execFrameEvent (s : State) : Result :=
  match s.ru.schedule with
  | [] => .next s
  | e :: rest => .next (reachScheduled s e rest)

/-! ### Settings (R85 to R87), taken at a capture now -/

/-- The mode becomes INTERNAL (R85). -/
def enterInternal (s : State) : State :=
  let r := { s.ru with
    lock := .internal, schedule := [], lastPulse := none, good := 0, held := 0, coast := s.cc.period, watch := none }
  let t := match s.ru.lastFrame with
    | some f => max (f + s.cc.period) s.now
    | none => s.now + s.cc.period
  reportRef (setRu s (r.addFree t)) s.ru.lock .modeWrite

/-- The mode becomes EXTERNAL from INTERNAL: coasting ACQUIRE, the schedule and Pc kept (R86). -/
def enterAcquire (s : State) : State :=
  reportRef (setRu s { s.ru with lock := .acquire }) s.ru.lock .modeWrite

/-- A Pn that changed the value in use in INTERNAL mode: Pc becomes it, and the scheduled time is replaced (R85). -/
def internalPeriod (s : State) : State :=
  let t := max (lastFramePlus s s.cc.period) s.now
  { setRu s ({ s.ru with coast := s.cc.period, schedule := [] }.addFree t) with draws := drawnAfter s }

/-- ACQUIRE restarted by a Pn or Tt that changed the value in use in EXTERNAL mode (R87). -/
def restartAcquire (s : State) : State :=
  let r := { s.ru with lock := .acquire, good := 0, held := 0, watch := none }
  let r1 := if hasFreeRun r.schedule then r
    else
      match r.schedule.getLast?, r.lastFrame with
      | some e, _ => r.addFree (e.time + r.coast)
      | none, some f => r.addFree (max (f + r.coast) s.now)
      | none, none => r
  reportRef (setRu s r1) s.ru.lock .settingWrite

/-- The fault latch cleared by the reference acknowledge (R88). -/
def refAck (s : State) : State := setRu s { s.ru with fault := false }

end Sys2Proof.Machine
end

