-- ==== Sys2Proof/Machine/Capture.lean ====
section
/-! DEFINITION. Control Capture (spec/10 sections 10.2, 10.3 and the owning rules of each word): merging, adjusting or refusing a
written word, and its effect on the block that uses it. -/

namespace Sys2Proof.Machine

/-! ### Taking and refusing (R185 steps 3 and 4) -/

/-- A word taken with an adjusted value: it becomes the shadow, and a change from the merged value is reported CLAMPED. -/
def takeWord (s : State) (w : CWord) (merged adjusted : Word) : State :=
  let s1 := setShadow s w adjusted
  if adjusted = merged then s1 else reportAdjusted s1 0 w.offset adjusted

/-- A word refused with a cause: it keeps its old shadow. -/
def refuseWord (s : State) (w : CWord) (cause : Nat) : State := reportAdjusted s cause w.offset (s.cc.word w)

/-! ### Adjustments -/

/-- A number kept between two bounds. -/
def clampNat (v lo hi : Nat) : Nat := if v < lo then lo else if hi < v then hi else v

/-- A field clamped between two bounds, the rest of the word kept. -/
def clampField (w : Word) (lo len least most : Nat) : Word := setField w lo len (clampNat (field w lo len) least most)

/-- W: rounded down to a multiple of 16, then 16 to 7680 (R186). -/
def adjustWidth (w : Word) : Word := setField w 0 13 (clampNat (field w 0 13 / 16 * 16) 16 7680)

/-- A base: bits below `n` cleared (R186). -/
def adjustBase (w : Word) (n : Nat) : Word := setField w 0 n 0

/-- The order code: 6 and 7 become 0 (R53). -/
def adjustOrder (w : Word) : Word := if 5 < field w 0 3 then setField w 0 3 0 else w

/-- Pn: from the larger of 400,000 and the phase offset in use + 1, to 5,000,000 (R76). -/
def adjustPeriod (c : Shadow) (w : Word) : Word := clampField w 0 23 (max 400000 (c.phaseOffset + 1)) 5000000

/-- The phase offset: below Pn in use (R76). -/
def adjustPhase (c : Shadow) (w : Word) : Word := clampField w 0 23 0 (c.period - 1)

/-- The first appearance of each value of a list, in order (R140 step 1). -/
def keepFirst (l : List Nat) : List Nat := l.foldl (fun kept x => if kept.contains x then kept else kept ++ [x]) []

/-- The repaired rank: the kept inputs, then the absent ones in ascending number (R140). -/
def repairRank (l : List Nat) : List Nat := keepFirst l ++ (List.range 8).filter fun x => !(keepFirst l).contains x

/-- The codes of the eight positions of a rank word. -/
def rankCodes (w : Word) : List Nat := (List.range 8).map fun p => field w (3 * p) 3

/-- A rank word with the codes of its positions replaced. -/
def setRank (w : Word) (codes : List Nat) : Word :=
  (List.range 8).foldl (fun w p => setField w (3 * p) 3 (codes.getD p 0)) w

/-- The rank word repaired (R140). -/
def adjustRank (w : Word) : Word := setRank w (repairRank (rankCodes w))

/-- The camera-to-look word: a default of 3 becomes 0, then each input of 3 the default (R141). -/
def adjustCameraMap (w : Word) : Word :=
  let w1 := if field w 16 2 = 3 then setField w 16 2 0 else w
  (List.range 8).foldl (fun v i => if field v (2 * i) 2 = 3 then setField v (2 * i) 2 (field w1 16 2) else v) w1

/-- A lamp link setup word: slot count 24 to 512 (R172). -/
def adjustLamp (w : Word) : Word := clampField w 8 10 24 512

/-- A pair of coordinates in one word, each clamped to `most` and the two exchanged if out of order (R57, R58). -/
def adjustPair (w : Word) (len most : Nat) : Word :=
  let a := min (field w 0 len) most
  let b := min (field w 16 len) most
  setField (setField w 0 len (min a b)) 16 len (max a b)

/-- A zone entry word adjusted against W and H in use (R57, R58). -/
def adjustZone (c : Shadow) (i : Fin 4) (w : Word) : Word :=
  match i with
  | 0 => if 16 < field w 8 5 then setField w 8 5 16 else w
  | 1 => adjustPair w 9 (c.columns - 1)
  | 2 => adjustPair w 12 (c.height - 1)
  | 3 => w

/-- A fixture entry word: a mode code that names no mode becomes OFF (R153). -/
def adjustFixture (i : Fin 4) (w : Word) : Word := if i = 0 ∧ field w 0 2 = 3 then setField w 0 2 0 else w

/-- A tile map header: tile count 1 to 16, tile width a multiple of 16 from 16 to 512, tile height 1 to 512 (R94). -/
def adjustHeader (w : Word) : Word :=
  clampField (setField (clampField w 3 5 1 16) 8 10 (clampNat (field w 8 10 / 16 * 16) 16 512)) 18 10 1 512

/-- The origin of a tile record: x0 a multiple of 16, at most 7664, y0 at most 2159 (R95). -/
def adjustOrigin (w : Word) : Word := setField (setField w 0 13 (min (field w 0 13 / 16 * 16) 7664)) 16 12 (min (field w 16 12) 2159)

/-- A tile record of a link: its origin adjusted, and its enable cleared if its rectangle leaves the canvas (R95). -/
def adjustRecord (c : Shadow) (l : Fin 24) (w : Word) : Word :=
  let v := adjustOrigin w
  let h := (c.tiles[l])[0]
  if v.getLsbD 31 ∧ (c.width < field v 0 13 + field h 8 10 ∨ c.height < field v 16 12 + field h 18 10) then
    setField v 31 1 0
  else v

/-! ### Placement (R187, R189) -/

/-- A range ends above the last address of the 4 GiB space. -/
def beyondSpace (base len : Nat) : Bool := Config.memoryBytes < base + len

/-- The ranges that some shadow values would give break the placement test of R187. -/
def placementBad (straps : BitVec 2) (c : Shadow) : Bool :=
  beyondSpace c.canvasBase c.bankSize || beyondSpace c.regionBase (4 * c.bankSize)
    || (c.ringCode != 0 && beyondSpace c.ringBase (16 * c.ringSize))
    || overlap c.regionBase (4 * c.bankSize) (controlBase straps) 0x4000
    || overlap c.ringBase (16 * c.ringSize) (controlBase straps) 0x4000
    || (c.running && overlap c.ringBase (16 * c.ringSize) c.regionBase (4 * c.bankSize))

/-- Two of the canvas window, the bank region, the report ring and the control window overlap (R189). -/
def rangesOverlap (straps : BitVec 2) (c : Shadow) : Bool :=
  overlap c.canvasBase c.bankSize c.regionBase (4 * c.bankSize)
    || overlap c.canvasBase c.bankSize c.ringBase (16 * c.ringSize)
    || overlap c.canvasBase c.bankSize (controlBase straps) 0x4000
    || overlap c.regionBase (4 * c.bankSize) c.ringBase (16 * c.ringSize)
    || overlap c.regionBase (4 * c.bankSize) (controlBase straps) 0x4000
    || overlap c.ringBase (16 * c.ringSize) (controlBase straps) 0x4000

/-! ### Setting words -/

/-- The word at 0x000: the run enable set or cleared, or neither; the other two bits taken as written (R189). -/
def captureEnables (s : State) (merged : Word) : State :=
  let w := CWord.setting 0
  if merged.getLsbD 0 && !s.cc.running then
    if rangesOverlap s.straps s.cc then
      let v := setField merged 0 1 0
      reportAdjusted (setShadow s w v) 3 w.offset v
    else setShadow s w merged
  else if !merged.getLsbD 0 && s.cc.running then resetWall (setShadow s w merged)
  else setShadow s w merged

/-- W, H or a base: refused while the wall runs (R188), else adjusted (R186) and refused if it fails the placement test
(R187). -/
def captureLocked (s : State) (w : CWord) (merged adjusted : Word) : State :=
  if s.cc.running then refuseWord s w 1
  else if placementBad s.straps (s.cc.setWord w adjusted) then refuseWord s w 2
  else takeWord s w merged adjusted

/-- The ring base or ring size code: refused if it fails the placement test (R187), else taken, and the ring restarted
(R192). -/
def captureRing (s : State) (w : CWord) (merged adjusted : Word) : State :=
  if placementBad s.straps (s.cc.setWord w adjusted) then refuseWord s w 2
  else ringRestart (takeWord s w merged adjusted)

/-- The reference mode and acquire count word: A clamped to 2 to 15, and a changed mode taken by the Reference Unit (R76,
R85, R86). -/
def captureMode (s : State) (merged : Word) : State :=
  let s1 := takeWord s (.setting 9) merged (clampField merged 8 5 2 15)
  if s1.cc.modeInternal && !s.cc.modeInternal then enterInternal s1
  else if !s1.cc.modeInternal && s.cc.modeInternal then enterAcquire s1
  else s1

/-- The nominal period word: a changed Pn reschedules the free run in INTERNAL mode and restarts ACQUIRE in EXTERNAL mode
(R76, R85, R87). -/
def capturePeriod (s : State) (merged : Word) : State :=
  let s1 := takeWord s (.setting 10) merged (adjustPeriod s.cc merged)
  if s1.cc.period = s.cc.period then s1
  else if s.cc.modeInternal then internalPeriod s1
  else restartAcquire s1

/-- The tolerance word: a changed Tt restarts ACQUIRE in EXTERNAL mode (R76, R87). -/
def captureTolerance (s : State) (merged : Word) : State :=
  let s1 := takeWord s (.setting 11) merged (clampField merged 0 17 1 65535)
  if s1.cc.tolerance = s.cc.tolerance then s1
  else if s.cc.modeInternal then s1
  else restartAcquire s1

/-- A lamp link setup word: the slot count adjusted, and a changed enable taken by the transmitter (R172, R179, R180). -/
def captureLamp (s : State) (w : CWord) (l : Fin 2) (merged : Word) : State :=
  let s1 := takeWord s w merged (adjustLamp merged)
  if s1.cc.lampEnable l && !s.cc.lampEnable l then lampEnabled s1 l
  else if !s1.cc.lampEnable l && s.cc.lampEnable l then lampDisabled s1 l
  else s1

/-- A setting word captured, by the rule that owns it (spec/10 section 10.8.2). -/
def captureSetting (s : State) (i : Fin 20) (m : Word) : State :=
  match i.val with
  | 0 => captureEnables s m
  | 1 => captureLocked s (.setting 1) m (adjustWidth m)
  | 2 => captureLocked s (.setting 2) m (clampField m 0 12 1 2160)
  | 3 => captureLocked s (.setting 3) m (adjustBase m 20)
  | 4 => captureLocked s (.setting 4) m (adjustBase m 20)
  | 5 => takeWord s (.setting 5) m (adjustOrder m)
  | 6 => captureRing s (.setting 6) m (adjustBase m 4)
  | 7 => captureRing s (.setting 7) m (clampField m 0 4 0 9)
  | 8 => takeWord s (.setting 8) m m
  | 9 => captureMode s m
  | 10 => capturePeriod s m
  | 11 => captureTolerance s m
  | 12 => takeWord s (.setting 12) m (adjustPhase s.cc m)
  | 13 => takeWord s (.setting 13) m (clampField m 0 9 1 255)
  | 14 => takeWord s (.setting 14) m m
  | 15 => takeWord s (.setting 15) m (adjustRank m)
  | 16 => takeWord s (.setting 16) m (adjustCameraMap m)
  | 17 => captureLamp s (.setting 17) 0 m
  | 18 => captureLamp s (.setting 18) 1 m
  | _ => takeWord s (.setting 19) m (clampField m 0 5 1 15)

/-! ### Command words (R190) -/

/-- The edit selector: 3 is refused; another value is taken (R147). The refresh follows from the change of selected look. -/
def captureSelector (s : State) (m : Word) : State :=
  if field m 0 2 = 3 then refuseWord s (.command 5) 4 else setShadow s (.command 5) m

/-- A consumer index value may be taken: below the ring size and not past the producer index going forward; while the ring
is off, 0 alone (R195). -/
def consumerOk (s : State) (v : Nat) : Bool :=
  if s.cc.ringCode = 0 then v == 0
  else
    let n := s.cc.ringSize
    v < n && (v + n - s.rw.cons) % n ≤ (s.rw.prod + n - s.rw.cons) % n

/-- The ring consumer index (R195). -/
def captureConsumer (s : State) (m : Word) : State :=
  let v := field m 0 12
  if consumerOk s v then
    let s1 := setShadow s (.command 6) m
    { s1 with rw := { s1.rw with cons := v } }
  else refuseWord s (.command 6) 4

/-- A command word captured: each capture is one command, on the merged value (R190). -/
def captureCommand (s : State) (i : Fin 7) (m : Word) : State :=
  match i with
  | 0 => takeCommit (setShadow s (.command 0) m) (m.extractLsb' 0 16)
  | 1 => resetWall (setShadow s (.command 1) m)
  | 2 => clearLinks (setShadow s (.command 2) m) m
  | 3 => refAck (setShadow s (.command 3) m)
  | 4 => tallyAck (setShadow s (.command 4) m) (m.extractLsb' 0 8)
  | 5 => captureSelector s m
  | 6 => captureConsumer s m

/-! ### Look parameter block and tables -/

/-- A look parameter block word: the selected look takes it whole, and the active look's change gives its notice (R146,
R148). -/
def captureLook (s : State) (i : Fin 2) (m : Word) : State :=
  let s1 := setShadow s (.look i) m
  if s.cc.selected = s.tu.look then
    if i = 0 then giveGain s1 (s1.cc.look s.tu.look).wallGain else giveGains s1 ⟨.lights, (s1.cc.look s.tu.look).gains⟩
  else s1

/-- A changed link enable acts on the transmitter and on the Link Supervisor (R114, R129). -/
def linkEnableEffect (s0 s : State) (l : Fin 24) : State :=
  if s.cc.linkEnable l && !s0.cc.linkEnable l then linkEnabled (txEnabled s l) l
  else if !s.cc.linkEnable l && s0.cc.linkEnable l then linkDisabled (txDisabled s l) l
  else s

/-- A tile map word: header, trims and records are adjusted and raise the resend request, a header's rate code goes to the
link's receiver and its changed link enable is taken; spare words are taken as written (R93 to R95, R115, R200). -/
def captureTile (s : State) (l : Fin 24) (i : Fin 32) (m : Word) : State :=
  if i = 0 then raiseResend (linkEnableEffect s (noteRate (takeWord s (.tile l i) m (adjustHeader m)) l) l)
  else if i = 1 then raiseResend (takeWord s (.tile l i) m m)
  else if i.val < 18 then raiseResend (takeWord s (.tile l i) m (adjustRecord s.cc l m))
  else takeWord s (.tile l i) m m

/-- A word of the control window captured with its merged value (R185 step 2). -/
def captureMerged (s : State) (w : CWord) (m : Word) : State :=
  match w with
  | .setting i => captureSetting s i m
  | .command i => captureCommand s i m
  | .look i => captureLook s i m
  | .zone z i => takeWord s (.zone z i) m (adjustZone s.cc i m)
  | .fixture f i => takeWord s (.fixture f i) m (adjustFixture i m)
  | .tile l i => captureTile s l i m

/-! ### A write (R185) -/

/-- The lanes a write gives to the word at a control window offset. -/
def lanesOf (s : State) (cells : List Host.Cell) (off n : Nat) : List Lane :=
  lanesAt cells (controlBase s.straps + off) n

/-- The word at an offset captured, if there is one and the write enables a byte of it (R185). -/
def captureAt (cells : List Host.Cell) (s : State) (off : Nat) : State :=
  match wordAt off with
  | none => s
  | some w =>
    let lanes := lanesOf s cells off 4
    if anyLane lanes then captureMerged s w (mergeWord (s.cc.word w) lanes) else s

/-- The end of a write to a fixture entry: UNPLACED is reported if it is left unplaced, and the entry notice given (R153,
R154). -/
def entryWritten (s : State) (i : Fin 128) : State :=
  let s1 := if placed s.cc i then s
    else reportAdjusted s 5 (CWord.fixture i 1).offset (s.cc.fixtures[i])[1]
  { s1 with le := { s1.le with entries := s1.le.entries ++ [i] } }

/-- The four words of the 16 bytes at an offset captured in ascending order, and a fixture entry's end if they are one
(R153, R185). -/
def captureQuarter (cells : List Host.Cell) (s : State) (off : Nat) : State :=
  let s1 := [off, off + 4, off + 8, off + 12].foldl (captureAt cells) s
  match wordAt off with
  | some (.fixture f _) => if anyLane (lanesOf s cells off 16) then entryWritten s1 f else s1
  | _ => s1

/-- A control-class write captured: the words of its 64-byte block in ascending offset (R185). -/
def captureWrite (s : State) (cells : List Host.Cell) (block : Nat) : State :=
  [block, block + 16, block + 32, block + 48].foldl (captureQuarter cells) s

/-- The bytes a captured write sends to memory for one word: the new shadow whole, or its bytes as written where there is
no word or it was not captured (R185). -/
def leftAt (s : State) (cells : List Host.Cell) (off : Nat) : List Host.Cell :=
  let written := cells.filter fun c => inRange c.1 (controlBase s.straps + off) 4
  match wordAt off with
  | none => written
  | some w => if written.isEmpty then [] else cellsFrom (controlBase s.straps + off) (bytesOf (s.cc.word w))

/-- The write access of a captured write (R41, R185), from the state after the captures. -/
def leftCells (s : State) (cells : List Host.Cell) (block : Nat) : List Host.Cell :=
  (List.range 16).flatMap fun i => leftAt s cells (block + 4 * i)

/-- The refresh writes: the selected look's two words, one access each (R147; log entry 21). -/
def refreshCells (s : State) : List (List Host.Cell) :=
  [cellsFrom (controlBase s.straps + 0x140) (bytesOf (s.cc.look s.cc.selected).wall),
   cellsFrom (controlBase s.straps + 0x144) (bytesOf (s.cc.look s.cc.selected).lights)]

/-- A control-class WRITE (R41): captured, then placed as one SP claim; a changed edit selector puts the port into REFRESH
with the refresh writes to follow. -/
def takeControlWrite (s : State) (cells : List Host.Cell) (block : Nat) : State :=
  let s1 := captureWrite s cells block
  let own := leftCells s1 cells block
  let phase := if s1.cc.selected = s.cc.selected then Phase.writeAccess own else .refresh (own :: refreshCells s1)
  { s1 with port := { s1.port with phase := phase, claim := true } }

end Sys2Proof.Machine
end

