-- ==== Sys2Proof/Machine/Port.lean ====
section
/-! DEFINITION. The System Port and the Window Decoder (spec/02): checks, classification, discards, reads and writes of every
class, responses; the rows that are System Port requests, and DISCARD_FLAG_CLEAR. -/

namespace Sys2Proof.Machine

/-! ### Responses (R33, R35) -/

/-- A response returned. -/
def respond (s : State) (r : Response) : State :=
  { s with port := { s.port with responses := s.port.responses ++ [r] } }

/-- The request in service finishes: its response is returned and the port returns to IDLE (R34, R35). -/
def finishRequest (s : State) (r : Response) : State :=
  respond { s with port := { s.port with phase := .idle, claim := false } } r

/-! ### Refusals and discards (R32, R39) -/

/-- The code of a request's kind in PORT_ERROR. -/
def kindCode : ReqKind → Nat
  | .read => 0
  | .write => 1

/-- A request refused: PORT_ERROR and an ERROR response (R32). -/
def refuseRequest (s : State) (r : Request) (reason : PortReason) : State :=
  finishRequest (report s .portError reason.code r.addr (pack [(kindCode r.kind, 0), (r.beats.toNat, 8)])) .error

/-- The byte of an enabled cell falls in a shielded range. -/
def cellShielded (s : State) (c : Host.Cell) : Bool := (s.classOf c.1).isShielded

/-- A write with a discarded byte: the discard count rises, and the first one since the last frame event sets the flag and
reports SHIELD_DISCARD with the request's address and the range of its first discarded byte (R39). -/
def noteDiscard (s : State) (r : Request) (g : ShieldRange) : State :=
  let s1 := { s with wd := { s.wd with discards := s.wd.discards + 1, reported := true } }
  if s.wd.reported then s1 else report s1 .shieldDiscard (shieldCode g) r.addr 0

/-- The discards of a write's enabled bytes noted, if there are any (R39). -/
def noteDiscards (s : State) (r : Request) (cells : List Host.Cell) : State :=
  match cells.find? (cellShielded s) with
  | none => s
  | some c =>
    match s.classOf c.1 with
    | .shielded g => noteDiscard s r g
    | .control => s
    | .canvas => s
    | .plain => s

/-! ### Reads (R40, R42, R46, R47) -/

/-- Where a canvas byte at address `a` is read: from the bank that serves its segment, or from its own address where none
does (R46, R47). -/
def canvasReadAddr (s : State) (a : Nat) : Nat :=
  match readBank s ((a - s.cc.canvasBase) / 64) with
  | some k => s.cc.bankAddr k + (a - s.cc.canvasBase)
  | none => a

/-- One byte of a READ: a canvas byte is redirected and belongs to the second access, any other byte is read from its own
address in the first (R40); a byte of the canvas window's tail is plain (R42). -/
def pickOf (s : State) (a : Nat) : Pick :=
  if s.classOf a = .canvas ∧ a - s.cc.canvasBase < canvasBytes s.cc.width s.cc.height then ⟨false, canvasReadAddr s a⟩
  else ⟨true, a⟩

/-- A READ taken: its bytes' sources are chosen now, and its first access is claimed (R40, R46 to R48). -/
def takeRead (s : State) (r : Request) : State :=
  { s with port := { s.port with phase := .readAccess ((reqAddrs r).map (pickOf s)) none, claim := true } }

/-- The addresses of the access a READ waits for: the first access's bytes, if there are any and they have not come back,
else the others (R40). -/
def readAddrs (picks : List Pick) (got : Option (List Byte)) : List Nat :=
  let own := (picks.filter (·.first)).map (·.addr)
  if got.isNone ∧ !own.isEmpty then own else (picks.filter fun p => !p.first).map (·.addr)

/-- A READ has a second access to make after data has come back (R40). -/
def readMore (picks : List Pick) (got : Option (List Byte)) : Bool :=
  got.isNone && picks.any (·.first) && picks.any fun p => !p.first

/-- The data of a READ in address order, from the data of its one or two accesses (R33). -/
def assembleRead : List Pick → List Byte → List Byte → List Byte
  | [], _, _ => []
  | p :: ps, own, bank =>
    if p.first then own.getD 0 0 :: assembleRead ps (own.drop 1) bank
    else bank.getD 0 0 :: assembleRead ps own (bank.drop 1)

/-! ### Writes (R35, R38, R41 to R44) -/

/-- A plain WRITE: one SP claim of its enabled bytes (R40). -/
def takePlainWrite (s : State) (cells : List Host.Cell) : State :=
  { s with port := { s.port with phase := .writeAccess cells, claim := true } }

/-- A canvas-class WRITE: plain beyond the last row of the canvas (R42), else offered to the Bank Manager with the 64 lanes
of its segment (R43). -/
def takeCanvasClass (s : State) (cells : List Host.Cell) (a : Nat) : State :=
  let o := a - s.cc.canvasBase
  if canvasBytes s.cc.width s.cc.height ≤ o then takePlainWrite s cells
  else takeCanvasWrite s (o / 64) (lanesAt cells (s.cc.canvasBase + o / 64 * 64) 64)

/-- A WRITE with the enabled bytes that remain after the discards, handled in the class of its first one (R38, R39). -/
def takeRemaining (s : State) (cells : List Host.Cell) : State :=
  match cells with
  | [] => finishRequest s .done
  | c :: _ =>
    match s.classOf c.1 with
    | .control =>
      takeControlWrite s cells ((c.1 - controlBase s.straps) / 64 * 64)
    | .canvas => takeCanvasClass s cells c.1
    | .plain => takePlainWrite s cells
    | .shielded _ => finishRequest s .done

/-- A WRITE taken: with every enable clear it finishes at once with no effect (R35); its shielded bytes are discarded and
the rest handled in its own class (R39). -/
def takeWrite (s : State) (r : Request) : State :=
  if (reqCells r).isEmpty then finishRequest s .done
  else takeRemaining (noteDiscards s r (reqCells r)) ((reqCells r).filter fun c => !cellShielded s c)

/-- A request taken in IDLE: checked (R32), classified and handled (R34). -/
def takeRequest (s : State) (r : Request) : State :=
  match requestError r with
  | some reason => refuseRequest s r reason
  | none =>
    match r.kind with
    | .read => takeRead s r
    | .write => takeWrite s r

/-- Requests taken one after another, oldest first, while the port is IDLE (R34). -/
def takeArrived : List Request → State → State
  | [], s => s
  | r :: rs, s =>
    let s1 := takeRequest { s with port := { s.port with arrived := rs } } r
    if s1.port.phase = .idle then takeArrived rs s1 else s1

/-- In IDLE the port takes the oldest request that has arrived and not been taken; in any other state it takes none
(R34; log entry 8). -/
def settlePort (s : State) : State := if s.port.phase = .idle then takeArrived s.port.arrived s else s

/-- A request arrives at tick `t` and is taken when the port is IDLE and no older request waits (R34). -/
def arrive (s : State) (t : Nat) (r : Request) : State :=
  let s1 := atTime s t
  settlePort { s1 with port := { s1.port with arrived := s1.port.arrived ++ [r] } }

/-! ### Requests to the ranges of the part -/

/-- A WRITE request at an address. -/
def writeRequest (a : Nat) (beats : Byte) (lanes : List Lane) : Request := ⟨.write, BitVec.ofNat 32 a, beats, lanes⟩

/-- A one-beat WRITE of four lanes to the word at a control window offset: the beat is the word's 16-byte part of the
window, so that it stays inside its 64-byte block (R32). -/
def wordRequest (s : State) (off : Nat) (lanes : List Lane) : Request :=
  writeRequest (controlBase s.straps + off / 16 * 16) 1
    (List.replicate (off % 16) none ++ lanes ++ List.replicate (12 - off % 16) none)

/-- A write of one control word arrives: byte enables and value (R32, R185). -/
def arriveWord (s : State) (t : Nat) (w : CWord) (en : BitVec 4) (v : Word) : State :=
  arrive s t (wordRequest s w.offset (wordLanes en v))

/-- CANVAS_WRITE (R43): a WRITE at an offset of the canvas window arrives. -/
def execCanvasWrite (t : Nat) (offset : Word) (beats : Byte) (lanes : List Lane) (s : State) : Result :=
  .next (arrive s t (writeRequest (s.cc.canvasBase + offset.toNat) beats lanes))

/-- CANVAS_READ (R46): a READ at an offset of the canvas window arrives. -/
def execCanvasRead (t : Nat) (offset : Word) (beats : Byte) (s : State) : Result :=
  .next (arrive s t ⟨.read, BitVec.ofNat 32 (s.cc.canvasBase + offset.toNat), beats, []⟩)

/-- PLAIN_REQUEST (R40): a request arrives by its address, whatever its class proves to be. -/
def execPlainRequest (t : Nat) (r : Request) (s : State) : Result := .next (arrive s t r)

/-- SHIELDED_WRITE (R39): a WRITE at an offset of a shielded range arrives. -/
def execShieldedWrite (t : Nat) (g : ShieldRange) (offset : Word) (beats : Byte) (lanes : List Lane) (s : State) : Result :=
  .next (arrive s t (writeRequest (s.shieldBase g + offset.toNat) beats lanes))

/-- DISCARD_FLAG_CLEAR (R39): the Window Decoder takes the oldest frame event notice given to it and clears its flag. -/
def execDiscardFlagClear (s : State) : Result :=
  match s.wd.frames with
  | [] => .next s
  | _ :: rest => .next { s with wd := { s.wd with frames := rest, reported := false } }

end Sys2Proof.Machine
end

