-- ==== Sys2Proof/Machine/Control.lean ====
section
/-! DEFINITION. The rows that are control-window writes (spec/10 sections 10.1 to 10.3): each is the System Port WRITE of the
word or entry it names, which Control Capture captures by the rule that owns the word. -/

namespace Sys2Proof.Machine

/-- A value and its enables with bit `b` forced: the byte that holds bit 0 enabled, and bit 0 as given. -/
def withBit0 (v : Word) (b : Bool) : Word := setField v 0 1 (bit b)

/-- Enables with byte 0 enabled. -/
def withByte0 (en : BitVec 4) : BitVec 4 := en ||| 1#4

/-- The run word as it stands with one bit replaced. -/
def runWordWith (s : State) (i : Nat) (b : Bool) : Word := setField s.cc.setting[0] i 1 (bit b)

/-- SETTING_WORD_WRITE (R185): a WRITE at any offset of the control window arrives. -/
def execSettingWordWrite (t : Nat) (offset : BitVec 14) (beats : Byte) (lanes : List Lane) (s : State) : Result :=
  .next (arrive s t (writeRequest (controlBase s.straps + offset.toNat) beats lanes))

/-- RUN_ENABLE_SET (R189): the word at 0x000 written with the run enable set. -/
def execRunEnableSet (t : Nat) (en : BitVec 4) (v : Word) (s : State) : Result :=
  .next (arriveWord s t (.setting 0) (withByte0 en) (withBit0 v true))

/-- RUN_ENABLE_CLEAR (R189): the word at 0x000 written with the run enable clear. -/
def execRunEnableClear (t : Nat) (en : BitVec 4) (v : Word) (s : State) : Result :=
  .next (arriveWord s t (.setting 0) (withByte0 en) (withBit0 v false))

/-- COPY_FORWARD_ENABLE_WRITE (R189): byte 0 of the word at 0x000 written with bit 1 given and its other bits as in use. -/
def execCopyForwardEnableWrite (t : Nat) (b : Bool) (s : State) : Result :=
  .next (arriveWord s t (.setting 0) 1 (runWordWith s 1 b))

/-- ATTENTION_ENABLE_WRITE (R189, R196): byte 0 of the word at 0x000 written with bit 2 given and its other bits as in
use. -/
def execAttentionEnableWrite (t : Nat) (b : Bool) (s : State) : Result :=
  .next (arriveWord s t (.setting 0) 1 (runWordWith s 2 b))

/-- CANVAS_WIDTH_WRITE (R186 to R188). -/
def execCanvasWidthWrite (t : Nat) (en : BitVec 4) (v : Word) (s : State) : Result :=
  .next (arriveWord s t (.setting 1) en v)

/-- CANVAS_HEIGHT_WRITE (R186 to R188). -/
def execCanvasHeightWrite (t : Nat) (en : BitVec 4) (v : Word) (s : State) : Result :=
  .next (arriveWord s t (.setting 2) en v)

/-- CANVAS_WINDOW_BASE_WRITE (R186 to R188). -/
def execCanvasWindowBaseWrite (t : Nat) (en : BitVec 4) (v : Word) (s : State) : Result :=
  .next (arriveWord s t (.setting 3) en v)

/-- BANK_REGION_BASE_WRITE (R186 to R188). -/
def execBankRegionBaseWrite (t : Nat) (en : BitVec 4) (v : Word) (s : State) : Result :=
  .next (arriveWord s t (.setting 4) en v)

/-- ORDER_CODE_WRITE (R53). -/
def execOrderCodeWrite (t : Nat) (en : BitVec 4) (v : Word) (s : State) : Result :=
  .next (arriveWord s t (.setting 5) en v)

/-- RING_BASE_WRITE (R186, R187, R192). -/
def execRingBaseWrite (t : Nat) (en : BitVec 4) (v : Word) (s : State) : Result :=
  .next (arriveWord s t (.setting 6) en v)

/-- RING_SIZE_CODE_WRITE (R186, R187, R192). -/
def execRingSizeCodeWrite (t : Nat) (en : BitVec 4) (v : Word) (s : State) : Result :=
  .next (arriveWord s t (.setting 7) en v)

/-- COMMIT (R13 to R16, R190). -/
def execCommit (t : Nat) (en : BitVec 4) (v : Word) (s : State) : Result :=
  .next (arriveWord s t (.command 0) en v)

/-- WALL_RESET (R30, R117, R190). -/
def execWallReset (t : Nat) (en : BitVec 4) (v : Word) (s : State) : Result :=
  .next (arriveWord s t (.command 1) en v)

/-- LINK_CLEAR (R130, R190). -/
def execLinkClear (t : Nat) (en : BitVec 4) (v : Word) (s : State) : Result :=
  .next (arriveWord s t (.command 2) en v)

/-- REFERENCE_ACKNOWLEDGE (R88, R190). -/
def execReferenceAcknowledge (t : Nat) (en : BitVec 4) (v : Word) (s : State) : Result :=
  .next (arriveWord s t (.command 3) en v)

/-- TALLY_ACKNOWLEDGE (R138, R190). -/
def execTallyAcknowledge (t : Nat) (en : BitVec 4) (v : Word) (s : State) : Result :=
  .next (arriveWord s t (.command 4) en v)

/-- LOOK_EDIT_SELECTOR (R147, R190). -/
def execLookEditSelector (t : Nat) (en : BitVec 4) (v : Word) (s : State) : Result :=
  .next (arriveWord s t (.command 5) en v)

/-- RING_CONSUMER_INDEX (R195, R190). -/
def execRingConsumerIndex (t : Nat) (en : BitVec 4) (v : Word) (s : State) : Result :=
  .next (arriveWord s t (.command 6) en v)

/-- MODE_WRITE_INTERNAL (R76, R85): the word at 0x024 written with the mode bit set. -/
def execModeWriteInternal (t : Nat) (en : BitVec 4) (v : Word) (s : State) : Result :=
  .next (arriveWord s t (.setting 9) (withByte0 en) (withBit0 v true))

/-- MODE_WRITE_EXTERNAL (R76, R86): the word at 0x024 written with the mode bit clear. -/
def execModeWriteExternal (t : Nat) (en : BitVec 4) (v : Word) (s : State) : Result :=
  .next (arriveWord s t (.setting 9) (withByte0 en) (withBit0 v false))

/-- ACQUIRE_COUNT_WRITE (R76, R87): byte 1 of the word at 0x024, which holds A in its low five bits, written. -/
def execAcquireCountWrite (t : Nat) (v : Byte) (s : State) : Result :=
  .next (arriveWord s t (.setting 9) 2 (v.setWidth 32 <<< 8))

/-- NOMINAL_PERIOD_WRITE (R76, R85, R87). -/
def execNominalPeriodWrite (t : Nat) (en : BitVec 4) (v : Word) (s : State) : Result :=
  .next (arriveWord s t (.setting 10) en v)

/-- TOLERANCE_WRITE (R76, R87). -/
def execToleranceWrite (t : Nat) (en : BitVec 4) (v : Word) (s : State) : Result :=
  .next (arriveWord s t (.setting 11) en v)

/-- PHASE_OFFSET_WRITE (R76, R87). -/
def execPhaseOffsetWrite (t : Nat) (en : BitVec 4) (v : Word) (s : State) : Result :=
  .next (arriveWord s t (.setting 12) en v)

/-- HOLDOVER_LIMIT_WRITE (R76, R87). -/
def execHoldoverLimitWrite (t : Nat) (en : BitVec 4) (v : Word) (s : State) : Result :=
  .next (arriveWord s t (.setting 13) en v)

/-- TALLY_EDGE_MODES_WRITE (R139). -/
def execTallyEdgeModesWrite (t : Nat) (en : BitVec 4) (v : Word) (s : State) : Result :=
  .next (arriveWord s t (.setting 14) en v)

/-- TALLY_RANK_WRITE (R140). -/
def execTallyRankWrite (t : Nat) (en : BitVec 4) (v : Word) (s : State) : Result :=
  .next (arriveWord s t (.setting 15) en v)

/-- CAMERA_TO_LOOK_WRITE (R141). -/
def execCameraToLookWrite (t : Nat) (en : BitVec 4) (v : Word) (s : State) : Result :=
  .next (arriveWord s t (.setting 16) en v)

/-- WALL_GAIN_WORD_WRITE (R146, R148). -/
def execWallGainWordWrite (t : Nat) (en : BitVec 4) (v : Word) (s : State) : Result :=
  .next (arriveWord s t (.look 0) en v)

/-- LIGHTING_GAINS_WORD_WRITE (R146, R148). -/
def execLightingGainsWordWrite (t : Nat) (en : BitVec 4) (v : Word) (s : State) : Result :=
  .next (arriveWord s t (.look 1) en v)

/-- ZONE_ENTRY_WRITE (R57, R58): a one-beat WRITE of the sixteen bytes of a zone entry. -/
def execZoneEntryWrite (t : Nat) (z : Fin 64) (lanes : List Lane) (s : State) : Result :=
  .next (arrive s t (writeRequest (controlBase s.straps + (CWord.zone z 0).offset) 1 lanes))

/-- FIXTURE_ENTRY_WRITE (R153, R154): a one-beat WRITE of the sixteen bytes of a fixture entry. -/
def execFixtureEntryWrite (t : Nat) (i : Fin 128) (lanes : List Lane) (s : State) : Result :=
  .next (arrive s t (writeRequest (controlBase s.straps + (CWord.fixture i 0).offset) 1 lanes))

/-- The setup word of a lamp link. -/
def lampWordOf (l : Fin 2) : CWord := if l = 0 then .setting 17 else .setting 18

/-- LAMP_LINK_ENABLE_SET (R172, R180): the setup word written with the enable set. -/
def execLampLinkEnableSet (t : Nat) (l : Fin 2) (en : BitVec 4) (v : Word) (s : State) : Result :=
  .next (arriveWord s t (lampWordOf l) (withByte0 en) (withBit0 v true))

/-- LAMP_LINK_ENABLE_CLEAR (R172, R179): the setup word written with the enable clear. -/
def execLampLinkEnableClear (t : Nat) (l : Fin 2) (en : BitVec 4) (v : Word) (s : State) : Result :=
  .next (arriveWord s t (lampWordOf l) (withByte0 en) (withBit0 v false))

/-- LAMP_LINK_SETUP_WRITE (R172). -/
def execLampLinkSetupWrite (t : Nat) (l : Fin 2) (en : BitVec 4) (v : Word) (s : State) : Result :=
  .next (arriveWord s t (lampWordOf l) en v)

/-- MISS_LIMIT_WRITE (R131). -/
def execMissLimitWrite (t : Nat) (en : BitVec 4) (v : Word) (s : State) : Result :=
  .next (arriveWord s t (.setting 19) en v)

/-- TILE_LINK_ENABLE_SET (R114, R129): a link entry's header written with the link enable set. -/
def execTileLinkEnableSet (t : Nat) (l : Fin 24) (en : BitVec 4) (v : Word) (s : State) : Result :=
  .next (arriveWord s t (.tile l 0) (withByte0 en) (withBit0 v true))

/-- TILE_LINK_ENABLE_CLEAR (R114, R129): a link entry's header written with the link enable clear. -/
def execTileLinkEnableClear (t : Nat) (l : Fin 24) (en : BitVec 4) (v : Word) (s : State) : Result :=
  .next (arriveWord s t (.tile l 0) (withByte0 en) (withBit0 v false))

/-- TILE_HEADER_WRITE (R94): a link entry's header word, or its trims word, written. -/
def execTileHeaderWrite (t : Nat) (l : Fin 24) (trims : Bool) (en : BitVec 4) (v : Word) (s : State) : Result :=
  .next (arriveWord s t (if trims then .tile l 1 else .tile l 0) en v)

/-- TILE_RECORD_WRITE (R95): a tile record of a link entry written. -/
def execTileRecordWrite (t : Nat) (l : Fin 24) (r : Fin 16) (en : BitVec 4) (v : Word) (s : State) : Result :=
  .next (arriveWord s t (.tile l ⟨r.val + 2, by omega⟩) en v)

end Sys2Proof.Machine
end

