-- ==== Sys2Proof/Machine/Channel.lean ====
section
/-! DEFINITION. The memory channel (spec/02 section 2.5): the arbiter's choice, what a granted access does for each claimant,
the start-up sweep, and the return of data; the rows ARBITER_GRANT, MEMORY_WRITE_COMPLETE, READ_DATA_RETURN,
PRE_READ_DATA_RETURN and COPY_READ_DATA_RETURN. -/

namespace Sys2Proof.Machine

/-! ### The arbiter (R50 to R53) -/

/-- A claimant has a claim waiting (R50). -/
def waiting (s : State) : Claimant → Bool
  | .sp => s.port.claim
  | .scanOut => s.so.claim
  | .copy =>
    match s.copy with
    | .idle => false
    | .wantRead => true
    | .reading => false
    | .wantWrite _ => true
  | .report => s.rw.claim.isSome

/-- The pass-over count of a claimant. -/
def Passed.get (p : Passed) : Claimant → Nat
  | .sp => p.sp
  | .scanOut => p.scanOut
  | .copy => p.copy
  | .report => p.report

/-- The claimants in the order of an order code, Report last (R51). Codes 6 and 7 are never in use (R53); they read as 0 here
(log entry 20). -/
def claimOrder (code : Nat) : List Claimant :=
  if code = 1 then [.sp, .copy, .scanOut, .report]
  else if code = 2 then [.scanOut, .sp, .copy, .report]
  else if code = 3 then [.scanOut, .copy, .sp, .report]
  else if code = 4 then [.copy, .sp, .scanOut, .report]
  else if code = 5 then [.copy, .scanOut, .sp, .report]
  else [.sp, .scanOut, .copy, .report]

/-- A claimant is aged: its pass-over count is 16 (R52). -/
def aged (s : State) (c : Claimant) : Bool := s.passed.get c == 16

/-- The claimant granted next: an urgent Scan-Out, else the first aged waiting claimant, else the first waiting one, in the
order in use (R51). -/
def arbiterChoice (s : State) : Option Claimant :=
  let order := claimOrder s.cc.orderCode
  if urgent s && waiting s .scanOut then some .scanOut
  else
    match order.find? (fun c => waiting s c && aged s c) with
    | some c => some c
    | none => order.find? (waiting s)

/-- A claimant's pass-over count after a grant to `who`: 0 for it, one more up to 16 for another that waits, else as it was
(R52). -/
def passCount (s : State) (who c : Claimant) : Nat :=
  if c = who then 0 else if waiting s c then min 16 (s.passed.get c + 1) else s.passed.get c

/-- The pass-over counts after a grant (R52). -/
def passOver (s : State) (who : Claimant) : State :=
  { s with passed := ⟨passCount s who .sp, passCount s who .scanOut, passCount s who .copy, passCount s who .report⟩ }

/-! ### The start-up sweep (R191) -/

/-- The 64-byte blocks of the control window that hold a word or a status byte, in ascending offset. -/
def sweepBlocks : List Nat :=
  [0x000, 0x040, 0x100, 0x140] ++ (List.range 4).map (fun i => 0x200 + 64 * i) ++ (List.range 16).map (fun i => 0x400 + 64 * i)
    ++ (List.range 32).map (fun i => 0x800 + 64 * i) ++ (List.range 48).map (fun i => 0x1000 + 64 * i)

/-- What the sweep writes at a word offset: a status block word's bytes of the power-on image, a word's power-on value, or
nothing where there is no word. -/
def sweepWord (straps : BitVec 2) (levels : BitVec 8) (off : Nat) : List Host.Cell :=
  if inRange off 0x200 0x100 then
    cellsFrom (controlBase straps + off) ((List.range 4).map fun i => (powerOnImage levels).getD (off - 0x200 + i) 0)
  else
    match wordAt off with
    | none => []
    | some w => cellsFrom (controlBase straps + off) (bytesOf (Shadow.powerOn.word w))

/-- The bytes of the sweep's access `k`. -/
def sweepCells (straps : BitVec 2) (levels : BitVec 8) (k : Nat) : List Host.Cell :=
  (List.range 16).flatMap fun i => sweepWord straps levels (sweepBlocks.getD k 0 + 4 * i)

/-! ### The access of each claim -/

/-- What a granted claim places on the memory channel. -/
inductive Access where
  | nothing
  | read (addrs : List Nat)
  | write (cells : List Host.Cell)
  deriving DecidableEq, Repr

/-- The addresses an access touches. -/
def Access.addrs : Access → List Nat
  | .nothing => []
  | .read addrs => addrs
  | .write cells => cells.map (·.1)

/-- The access of the waiting SP claim, by the port's state (R34, R40, R41, R45, R191). -/
def spAccess (s : State) : Access :=
  match s.port.phase with
  | .startup k levels => .write (sweepCells s.straps levels k)
  | .readAccess picks got => .read (readAddrs picks got)
  | .writeAccess cells => .write cells
  | .preRead _ src seg _ _ => .read (blockAddrs (s.cc.segmentAddr src seg))
  | .mergedWrite bank seg bytes => .write (cellsFrom (s.cc.segmentAddr bank seg) bytes)
  | .refresh (cells :: _) => .write cells
  | .refresh [] => .nothing
  | .idle => .nothing
  | .sealStall _ _ => .nothing

/-- The access of the waiting Scan-Out claim: the segment that the link it serves needs next, or nothing where no link needs a
fetch any more (R105, R106; log entry 10). -/
def scanOutAccess (s : State) : Access :=
  match s.so.send, chooseLink s with
  | some d, some l =>
    match d.parts[l] with
    | some p => .read (blockAddrs (s.cc.segmentAddr d.bank (p.nextSegment s.cc.columns)))
    | none => .nothing
  | _, _ => .nothing

/-- The access of the waiting Copy claim: the read of the source's segment, or the write of the buffer to the target's unless
it has become marked (R18; log entry 10). -/
def copyAccess (s : State) : Access :=
  match bankTarget s with
  | none => .nothing
  | some k =>
    let seg := (s.banks[k]).progress
    match s.copy with
    | .idle => .nothing
    | .reading => .nothing
    | .wantRead =>
      match (s.banks[k]).src with
      | none => .nothing
      | some j => .read (blockAddrs (s.cc.segmentAddr j seg))
    | .wantWrite buffer => if isMarked s k seg then .nothing else .write (cellsFrom (s.cc.segmentAddr k seg) buffer)

/-- The access of the waiting Report claim (R194, R197). -/
def reportAccess (s : State) : Access :=
  match s.rw.claim with
  | none => .nothing
  | some .index => .write (indexCells s (s.rw.owed.getD 0))
  | some (.part i) => .write (partCells s i)
  | some .record =>
    match s.rw.queue with
    | [] => .nothing
    | r :: _ => .write (recordCells s r)

/-- The access of a claimant's waiting claim. -/
def accessOf (s : State) : Claimant → Access
  | .sp => spAccess s
  | .scanOut => scanOutAccess s
  | .copy => copyAccess s
  | .report => reportAccess s

/-- An access placed on the memory channel (R49): a write is in memory at once; a read's data is what memory holds now, and
`ch` is the channel that carries it. -/
def place (s : State) (a : Access) (ch : List Byte → Channel) : State :=
  match a with
  | .nothing => s
  | .read addrs => { s with channel := ch (Memory.readAll s.mem addrs) }
  | .write cells => placeWrite s cells

/-! ### The effect of a grant -/

/-- The SP claim no longer waits. -/
def spGranted (s : State) : State := { s with port := { s.port with claim := false } }

/-- The port moves on to another state of its request with its next claim waiting. -/
def spNext (s : State) (p : Phase) : State := { s with port := { s.port with phase := p, claim := true } }

/-- What follows the grant of the SP claim in each state of the port (R34, R35, R41, R45, R191): the next claim, a wait for
data, or the request's finish, after which the port takes the oldest request that has arrived. -/
def spFollow (s : State) : State :=
  match s.port.phase with
  | .startup k levels =>
    if k + 1 < Config.sweepAccesses then spNext s (.startup (k + 1) levels)
    else settlePort { s with port := { s.port with phase := .idle, claim := false } }
  | .readAccess _ _ => spGranted s
  | .preRead _ _ _ _ _ => spGranted s
  | .writeAccess _ => settlePort (finishRequest s .done)
  | .mergedWrite _ _ _ => settlePort (finishRequest s .done)
  | .refresh (_ :: c :: rest) => spNext s (.refresh (c :: rest))
  | .refresh [_] => settlePort (finishRequest s .done)
  | .refresh [] => spGranted s
  | .idle => spGranted s
  | .sealStall _ _ => spGranted s

/-- The channel that carries the data of an SP read. -/
def spChannel (s : State) (data : List Byte) : Channel :=
  match s.port.phase with
  | .preRead _ _ _ _ _ => .preRead data
  | _ => .spRead data

/-- An SP claim granted. -/
def grantSp (s : State) : State := spFollow (place s (spAccess s) (spChannel s))

/-- The link that a granted Scan-Out claim serves has one segment more fetched and is the link served last; the next claim is
raised if some link still needs a fetch (R105, R106). -/
def scanOutFollow (s : State) (l : Fin 24) : State :=
  match partOf s l with
  | none => s
  | some p =>
    let s1 := setPart s l (some { p with fetched := p.fetched + 1 })
    { s1 with so := { s1.so with served := l, claim := anyNeedsFetch s1 } }

/-- A Scan-Out claim granted (R106); with no link that needs a fetch it ends without an access (log entry 10). -/
def grantScanOut (s : State) : State :=
  match chooseLink s with
  | none => { s with so := { s.so with claim := false } }
  | some l => scanOutFollow (place s (scanOutAccess s) (fun data => .segmentRead l data false)) l

/-- A copy write that passes the repeated check: the segment is marked and counted, and its content added to the target's
accumulators by the target's geometry (R5, R18, R66). -/
def copyLands (s : State) (k : Fin 4) (seg : Nat) (buffer : List Byte) : State :=
  let s1 := markWritten s k seg
  setBank s1 k (addSegment s1.cc.columns s1.banks[k] seg buffer)

/-- A Copy claim granted (R18): a read fills the buffer when its data returns; a write lands or is dropped, and the copy step
ends, after which a canvas write held because of the seal may be taken again (R20, R21, R44). -/
def grantCopy (s : State) : State :=
  match s.copy, bankTarget s with
  | .wantRead, some _ => { place s (copyAccess s) (fun data => .copyRead data false) with copy := .reading }
  | .wantWrite buffer, some k =>
    let s1 := place s (copyAccess s) (fun data => .copyRead data false)
    let seg := (s.banks[k]).progress
    retakeStalled (copyStepEnd (if isMarked s k seg then s1 else copyLands s1 k seg buffer) k)
  | .wantRead, none => copyIdle s
  | .wantWrite _, none => copyIdle s
  | .idle, _ => s
  | .reading, _ => s

/-- What follows the grant of a Report claim (R194, R197): the producer index advances, a part is no longer outstanding, or
the oldest record has been written and its index write is owed. -/
def reportFollow (s : State) (c : RwClaim) : State :=
  match c with
  | .index => { s with rw := { s.rw with prod := s.rw.owed.getD s.rw.prod, owed := none } }
  | .part i => { s with rw := { s.rw with outstanding := put s.rw.outstanding i false } }
  | .record =>
    match s.rw.queue with
    | [] => s
    | r :: rest => { s with rw := { s.rw with queue := rest, owed := some ((r.slot + 1) % s.cc.ringSize) } }

/-- A Report claim granted, and the Report Writer's next claim raised (R194). -/
def grantReport (s : State) : State :=
  match s.rw.claim with
  | none => s
  | some c =>
    let s1 := reportFollow (place s (reportAccess s) (fun data => .spRead data)) c
    rwRaise { s1 with rw := { s1.rw with claim := none } }

/-- A claim granted, with the pass-over counts of R52 already set. -/
def grant (s : State) : Claimant → State
  | .sp => grantSp s
  | .scanOut => grantScanOut s
  | .copy => grantCopy s
  | .report => grantReport s

/-- Every address of an access is in the DRAM behind the Memory Port (spec/00 section 1.5). -/
def inMemory (a : Access) : Bool := a.addrs.all fun x => decide (x < Config.memoryBytes)

/-- The channel is free (R49). -/
def Channel.isFree : Channel → Bool
  | .free => true
  | _ => false

/-- ARBITER_GRANT (R51): at tick `t`, with the channel free and a claim waiting, one claim is granted and takes effect; else
nothing is granted. -/
def execArbiterGrant (t : Nat) (s : State) : Result :=
  let s1 := atTime s t
  if s1.channel.isFree then
    match arbiterChoice s1 with
    | none => .next s1
    | some c => if inMemory (accessOf s1 c) then .next (grant (passOver s1 c) c) else .fault .outsideMemory
  else .next s1

/-! ### Completions (R49) -/

/-- The channel becomes free. -/
def freeChannel (s : State) : State := { s with channel := .free }

/-- MEMORY_WRITE_COMPLETE (R49): DRAM has accepted the data of the write on the channel. -/
def execMemoryWriteComplete (s : State) : Result :=
  match s.channel with
  | .write _ => .next (freeChannel s)
  | _ => .next s

/-- The data of a READ's access comes back: a second access is claimed (R40), or the request finishes with its data (R33,
R35). -/
def readReturned (s : State) (picks : List Pick) (got : Option (List Byte)) (data : List Byte) : State :=
  if readMore picks got then spNext s (.readAccess picks (some data))
  else
    let own := match got with
      | some bytes => bytes
      | none => if picks.any (·.first) then data else []
    settlePort (finishRequest s (.data (assembleRead picks own data)))

/-- READ_DATA_RETURN (R35, R49): at tick `t`, the data of the SP read on the channel returns. -/
def execReadDataReturn (t : Nat) (s : State) : Result :=
  let s1 := atTime s t
  match s1.channel, s1.port.phase with
  | .spRead data, .readAccess picks got => .next (readReturned (freeChannel s1) picks got data)
  | .spRead _, _ => .next (freeChannel s1)
  | _, _ => .next s1

/-- The old content of a held write is back: the sums take the subtraction (for a rewrite) and the addition, and the merged
segment is claimed (R45 steps 2 and 3, R65, R67). -/
def preReadReturned (s : State) (bank : Fin 4) (seg : Nat) (lanes : List Lane) (rewrite : Bool) (old : List Byte) : State :=
  let new := mergeBytes old lanes
  let b := s.banks[bank]
  let b1 := if rewrite then swapSegment s.cc.columns b seg old new else addSegment s.cc.columns b seg new
  spNext (setBank s bank b1) (.mergedWrite bank seg new)

/-- PRE_READ_DATA_RETURN (R45): the data of the pre-read on the channel returns. -/
def execPreReadDataReturn (s : State) : Result :=
  match s.channel, s.port.phase with
  | .preRead old, .preRead bank _ seg lanes rewrite => .next (preReadReturned (freeChannel s) bank seg lanes rewrite old)
  | .preRead _, _ => .next (freeChannel s)
  | _, _ => .next s

/-- COPY_READ_DATA_RETURN (R18, R22): the data of the copy read on the channel returns into the copy buffer and the write is
claimed; data of an abandoned copy is discarded. -/
def execCopyReadDataReturn (s : State) : Result :=
  match s.channel with
  | .copyRead data discard =>
    if discard then .next (freeChannel s)
    else
      match s.copy with
      | .reading => .next { freeChannel s with copy := .wantWrite data }
      | _ => .next (freeChannel s)
  | _ => .next s

/-! ### Power-on reset (R29, R34, R55) -/

/-- The content of DRAM when power-on reset discards the accesses already granted: each byte of a write that is still on the
channel may have reached DRAM or not (R49, R55; free values, log entry 11). -/
def memoryAtReset (s : State) : Memory :=
  match s.channel with
  | .write undo => Memory.writeAll s.mem (undo.filter fun c => !Config.discardedWriteLands s.draws c.1)
  | _ => s.mem

/-- The count of free values drawn, after `memoryAtReset` has been asked. -/
def drawsAtReset (s : State) : Nat :=
  match s.channel with
  | .write _ => s.draws + 1
  | _ => s.draws

/-- POWER_ON_RESET (R29, R34, R55, R75, R92, R119, R134, R151, R171, R183, R191, R199): every block takes its power-on values
with the straps and tally levels on the pins, and the start-up sweep begins. DRAM, the requests waiting outside the part and
the responses returned before stay. -/
def execPowerOnReset (straps : BitVec 2) (levels : BitVec 8) (s : State) : Result :=
  .next (State.powerOn straps levels (memoryAtReset s) s.port.arrived s.port.responses (drawsAtReset s) s.pending)

end Sys2Proof.Machine
end

