-- ==== Sys2Proof/Machine/Dispatch.lean ====
section
/-! DEFINITION. The dispatch: one arm per command, each a call of its meaning. -/

namespace Sys2Proof.Machine

def exec (i : Instr) (s : State) : Host.Outcome State Fault Refusal :=
  match i with
  | .powerOnReset straps levels => Sys2Proof.Machine.execPowerOnReset straps levels s
  | .canvasWrite t offset beats lanes => Sys2Proof.Machine.execCanvasWrite t offset beats lanes s
  | .canvasRead t offset beats => Sys2Proof.Machine.execCanvasRead t offset beats s
  | .plainRequest t req => Sys2Proof.Machine.execPlainRequest t req s
  | .shieldedWrite t range offset beats lanes => Sys2Proof.Machine.execShieldedWrite t range offset beats lanes s
  | .settingWordWrite t offset beats lanes => Sys2Proof.Machine.execSettingWordWrite t offset beats lanes s
  | .runEnableSet t en v => Sys2Proof.Machine.execRunEnableSet t en v s
  | .runEnableClear t en v => Sys2Proof.Machine.execRunEnableClear t en v s
  | .copyForwardEnableWrite t b => Sys2Proof.Machine.execCopyForwardEnableWrite t b s
  | .attentionEnableWrite t b => Sys2Proof.Machine.execAttentionEnableWrite t b s
  | .canvasWidthWrite t en v => Sys2Proof.Machine.execCanvasWidthWrite t en v s
  | .canvasHeightWrite t en v => Sys2Proof.Machine.execCanvasHeightWrite t en v s
  | .canvasWindowBaseWrite t en v => Sys2Proof.Machine.execCanvasWindowBaseWrite t en v s
  | .bankRegionBaseWrite t en v => Sys2Proof.Machine.execBankRegionBaseWrite t en v s
  | .ringBaseWrite t en v => Sys2Proof.Machine.execRingBaseWrite t en v s
  | .ringSizeCodeWrite t en v => Sys2Proof.Machine.execRingSizeCodeWrite t en v s
  | .orderCodeWrite t en v => Sys2Proof.Machine.execOrderCodeWrite t en v s
  | .commit t en v => Sys2Proof.Machine.execCommit t en v s
  | .wallReset t en v => Sys2Proof.Machine.execWallReset t en v s
  | .linkClear t en v => Sys2Proof.Machine.execLinkClear t en v s
  | .referenceAcknowledge t en v => Sys2Proof.Machine.execReferenceAcknowledge t en v s
  | .tallyAcknowledge t en v => Sys2Proof.Machine.execTallyAcknowledge t en v s
  | .lookEditSelector t en v => Sys2Proof.Machine.execLookEditSelector t en v s
  | .ringConsumerIndex t en v => Sys2Proof.Machine.execRingConsumerIndex t en v s
  | .modeWriteInternal t en v => Sys2Proof.Machine.execModeWriteInternal t en v s
  | .modeWriteExternal t en v => Sys2Proof.Machine.execModeWriteExternal t en v s
  | .acquireCountWrite t v => Sys2Proof.Machine.execAcquireCountWrite t v s
  | .nominalPeriodWrite t en v => Sys2Proof.Machine.execNominalPeriodWrite t en v s
  | .toleranceWrite t en v => Sys2Proof.Machine.execToleranceWrite t en v s
  | .phaseOffsetWrite t en v => Sys2Proof.Machine.execPhaseOffsetWrite t en v s
  | .holdoverLimitWrite t en v => Sys2Proof.Machine.execHoldoverLimitWrite t en v s
  | .tallyEdgeModesWrite t en v => Sys2Proof.Machine.execTallyEdgeModesWrite t en v s
  | .tallyRankWrite t en v => Sys2Proof.Machine.execTallyRankWrite t en v s
  | .cameraToLookWrite t en v => Sys2Proof.Machine.execCameraToLookWrite t en v s
  | .wallGainWordWrite t en v => Sys2Proof.Machine.execWallGainWordWrite t en v s
  | .lightingGainsWordWrite t en v => Sys2Proof.Machine.execLightingGainsWordWrite t en v s
  | .zoneEntryWrite t z lanes => Sys2Proof.Machine.execZoneEntryWrite t z lanes s
  | .fixtureEntryWrite t f lanes => Sys2Proof.Machine.execFixtureEntryWrite t f lanes s
  | .lampLinkEnableSet t l en v => Sys2Proof.Machine.execLampLinkEnableSet t l en v s
  | .lampLinkEnableClear t l en v => Sys2Proof.Machine.execLampLinkEnableClear t l en v s
  | .lampLinkSetupWrite t l en v => Sys2Proof.Machine.execLampLinkSetupWrite t l en v s
  | .missLimitWrite t en v => Sys2Proof.Machine.execMissLimitWrite t en v s
  | .tileLinkEnableSet t l en v => Sys2Proof.Machine.execTileLinkEnableSet t l en v s
  | .tileLinkEnableClear t l en v => Sys2Proof.Machine.execTileLinkEnableClear t l en v s
  | .tileHeaderWrite t l trims en v => Sys2Proof.Machine.execTileHeaderWrite t l trims en v s
  | .tileRecordWrite t l r en v => Sys2Proof.Machine.execTileRecordWrite t l r en v s
  | .arbiterGrant t => Sys2Proof.Machine.execArbiterGrant t s
  | .memoryWriteComplete => Sys2Proof.Machine.execMemoryWriteComplete s
  | .readDataReturn t => Sys2Proof.Machine.execReadDataReturn t s
  | .preReadDataReturn => Sys2Proof.Machine.execPreReadDataReturn s
  | .segmentDataReturn => Sys2Proof.Machine.execSegmentDataReturn s
  | .frameEvent => Sys2Proof.Machine.execFrameEvent s
  | .referencePulse t => Sys2Proof.Machine.execReferencePulse t s
  | .pulseMissing => Sys2Proof.Machine.execPulseMissing s
  | .scanOutFrameEvent => Sys2Proof.Machine.execScanOutFrameEvent s
  | .leaveNotice => Sys2Proof.Machine.execLeaveNotice s
  | .recoverNotice => Sys2Proof.Machine.execRecoverNotice s
  | .wallGainNotice => Sys2Proof.Machine.execWallGainNotice s
  | .packetFinish l => Sys2Proof.Machine.execPacketFinish l s
  | .returnPacketArrival l bytes => Sys2Proof.Machine.execReturnPacketArrival l bytes s
  | .linkCheck => Sys2Proof.Machine.execLinkCheck s
  | .markNotice => Sys2Proof.Machine.execMarkNotice s
  | .tallyEdge input level => Sys2Proof.Machine.execTallyEdge input level s
  | .tallySample => Sys2Proof.Machine.execTallySample s
  | .showNotice => Sys2Proof.Machine.execShowNotice s
  | .lookNotice => Sys2Proof.Machine.execLookNotice s
  | .lightingGainsNotice => Sys2Proof.Machine.execLightingGainsNotice s
  | .entryNotice => Sys2Proof.Machine.execEntryNotice s
  | .fadeStep => Sys2Proof.Machine.execFadeStep s
  | .lampUnitFinish l => Sys2Proof.Machine.execLampUnitFinish l s
  | .statusBlockRewrite => Sys2Proof.Machine.execStatusBlockRewrite s
  | .discardFlagClear => Sys2Proof.Machine.execDiscardFlagClear s
  | .reportTaken m => Sys2Proof.Machine.execReportTaken m s
  | .copyReadDataReturn => Sys2Proof.Machine.execCopyReadDataReturn s

end Sys2Proof.Machine
end

