-- ==== Sys2Proof/Safety.lean ====
section
/-! DEFINITION. What claims are stated in: when a request is taken at once, the control word a command writes, and the laws of
the part (bank table, written maps, ring, settings, reference, links, fades, arbiter) that a safe run keeps. -/

namespace Sys2Proof.Machine

/-! ### Requests that are taken at once -/

/-- The System Port is in IDLE, raises no claim, and no older request waits (R34). -/
def PortReady (s : State) : Prop := s.port.phase = .idle ∧ s.port.claim = false ∧ s.port.arrived = []

/-- The report ring and the bank region keep clear of the control window, as R187 keeps them. -/
def WindowClear (s : State) : Prop :=
  overlap s.cc.ringBase (16 * s.cc.ringSize) (controlBase s.straps) 0x4000 = false
    ∧ overlap s.cc.regionBase (4 * s.cc.bankSize) (controlBase s.straps) 0x4000 = false

/-- A control-window write that arrives is taken and captured at once. -/
def ControlReady (s : State) : Prop := PortReady s ∧ WindowClear s

/-- The write of one control word that a command is, on the state it finds: tick, word, byte enables and value; none for the
commands that are not such a write, and for the look edit selector, whose write may start a refresh (R147). -/
def wordCommand (s : State) : Instr → Option (Nat × CWord × BitVec 4 × Word)
  | .runEnableSet t en v => some (t, .setting 0, withByte0 en, withBit0 v true)
  | .runEnableClear t en v => some (t, .setting 0, withByte0 en, withBit0 v false)
  | .copyForwardEnableWrite t b => some (t, .setting 0, 1, runWordWith s 1 b)
  | .attentionEnableWrite t b => some (t, .setting 0, 1, runWordWith s 2 b)
  | .canvasWidthWrite t en v => some (t, .setting 1, en, v)
  | .canvasHeightWrite t en v => some (t, .setting 2, en, v)
  | .canvasWindowBaseWrite t en v => some (t, .setting 3, en, v)
  | .bankRegionBaseWrite t en v => some (t, .setting 4, en, v)
  | .orderCodeWrite t en v => some (t, .setting 5, en, v)
  | .ringBaseWrite t en v => some (t, .setting 6, en, v)
  | .ringSizeCodeWrite t en v => some (t, .setting 7, en, v)
  | .modeWriteInternal t en v => some (t, .setting 9, withByte0 en, withBit0 v true)
  | .modeWriteExternal t en v => some (t, .setting 9, withByte0 en, withBit0 v false)
  | .acquireCountWrite t v => some (t, .setting 9, 2, v.setWidth 32 <<< 8)
  | .nominalPeriodWrite t en v => some (t, .setting 10, en, v)
  | .toleranceWrite t en v => some (t, .setting 11, en, v)
  | .phaseOffsetWrite t en v => some (t, .setting 12, en, v)
  | .holdoverLimitWrite t en v => some (t, .setting 13, en, v)
  | .tallyEdgeModesWrite t en v => some (t, .setting 14, en, v)
  | .tallyRankWrite t en v => some (t, .setting 15, en, v)
  | .cameraToLookWrite t en v => some (t, .setting 16, en, v)
  | .lampLinkEnableSet t l en v => some (t, lampWordOf l, withByte0 en, withBit0 v true)
  | .lampLinkEnableClear t l en v => some (t, lampWordOf l, withByte0 en, withBit0 v false)
  | .lampLinkSetupWrite t l en v => some (t, lampWordOf l, en, v)
  | .missLimitWrite t en v => some (t, .setting 19, en, v)
  | .commit t en v => some (t, .command 0, en, v)
  | .wallReset t en v => some (t, .command 1, en, v)
  | .linkClear t en v => some (t, .command 2, en, v)
  | .referenceAcknowledge t en v => some (t, .command 3, en, v)
  | .tallyAcknowledge t en v => some (t, .command 4, en, v)
  | .ringConsumerIndex t en v => some (t, .command 6, en, v)
  | .wallGainWordWrite t en v => some (t, .look 0, en, v)
  | .lightingGainsWordWrite t en v => some (t, .look 1, en, v)
  | .tileLinkEnableSet t l en v => some (t, .tile l 0, withByte0 en, withBit0 v true)
  | .tileLinkEnableClear t l en v => some (t, .tile l 0, withByte0 en, withBit0 v false)
  | .tileHeaderWrite t l trims en v => some (t, if trims then .tile l 1 else .tile l 0, en, v)
  | .tileRecordWrite t l r en v => some (t, .tile l ⟨r.val + 2, by omega⟩, en, v)
  | .powerOnReset _ _ | .canvasWrite _ _ _ _ | .canvasRead _ _ _ | .plainRequest _ _ | .shieldedWrite _ _ _ _ _
  | .settingWordWrite _ _ _ _ | .lookEditSelector _ _ _ | .zoneEntryWrite _ _ _ | .fixtureEntryWrite _ _ _
  | .arbiterGrant _ | .memoryWriteComplete | .readDataReturn _ | .preReadDataReturn | .segmentDataReturn | .frameEvent
  | .referencePulse _ | .pulseMissing | .scanOutFrameEvent | .leaveNotice | .recoverNotice | .wallGainNotice
  | .packetFinish _ | .returnPacketArrival _ _ | .linkCheck | .markNotice | .tallyEdge _ _ | .tallySample | .showNotice
  | .lookNotice | .lightingGainsNotice | .entryNotice | .fadeStep | .lampUnitFinish _ | .statusBlockRewrite
  | .discardFlagClear | .reportTaken _ | .copyReadDataReturn => none

/-- The port serving a write: its access is claimed and waits (R35). -/
def serving (s : State) (cells : List Host.Cell) : State :=
  { s with port := { s.port with phase := .writeAccess cells, claim := true } }

/-- The whole content of one control word on its way to memory: its shadow's four bytes at its address (R185). -/
def wordCells (s : State) (w : CWord) : List Host.Cell := cellsFrom (controlBase s.straps + w.offset) (bytesOf (s.cc.word w))

/-- The words of one entry captured in order, each with its four lanes, if some byte of it is enabled (R185). -/
def captureWords (s : State) (words : List (CWord × List Lane)) : State :=
  words.foldl (fun s p => if anyLane p.2 then captureMerged s p.1 (mergeWord (s.cc.word p.1) p.2) else s) s

/-- The bytes that the captured words of one entry send to memory: each word whole (R185). -/
def entryCells (s : State) (words : List (CWord × List Lane)) : List Host.Cell :=
  words.flatMap fun p => if anyLane p.2 then wordCells s p.1 else []

/-- The four words of an entry with their lanes out of sixteen. -/
def entryWords (word : Fin 4 → CWord) (lanes : List Lane) : List (CWord × List Lane) :=
  [(word 0, lanes.take 4), (word 1, (lanes.drop 4).take 4), (word 2, (lanes.drop 8).take 4), (word 3, (lanes.drop 12).take 4)]

/-- The state with reports handed over after those that wait (R193). -/
def withReports (s : State) (reports : List Report) : State :=
  { s with rw := { s.rw with reports := s.rw.reports ++ reports } }

/-- `t` is `s` after a WRITE's shielded bytes are lost (R39): with none nothing changes; else the discard count rises by one, and
the first such write since the flag was cleared reports SHIELD_DISCARD with the request's address and the range of its first
discarded byte. -/
def DiscardsNoted (s t : State) (r : Request) : Prop :=
  ((∀ c ∈ reqCells r, (s.classOf c.1).isShielded = false) → t = s)
    ∧ ∀ a first, ((reqCells r).map (·.1)).find? (fun x => (s.classOf x).isShielded) = some a → s.classOf a = .shielded first →
        t = withReports { s with wd := { s.wd with discards := s.wd.discards + 1, reported := true } }
          (if s.wd.reported then [] else [⟨.shieldDiscard, BitVec.ofNat 8 (shieldCode first), r.addr, 0⟩])

/-- The words of the 16 bytes at a control window offset, each with the four lanes that some written bytes give it. -/
def wordsIn (straps : BitVec 2) (cells : List Host.Cell) (off : Nat) : List (CWord × List Lane) :=
  [off, off + 4, off + 8, off + 12].filterMap fun o => (wordAt o).map fun w => (w, lanesAt cells (controlBase straps + o) 4)

/-- `t` is `s` after the words of the 16 bytes at a control window offset are captured in ascending offset (R185), with the end
of a fixture entry's write after its words (R153; log entry 22). -/
def QuarterCaptured (s t : State) (cells : List Host.Cell) (off : Nat) : Prop :=
  let u := captureWords s (wordsIn s.straps cells off)
  (∀ f, wordAt off = some (.fixture f 0) → anyLane (lanesAt cells (controlBase s.straps + off) 16) = true → t = entryWritten u f)
    ∧ ((∀ f, wordAt off = some (.fixture f 0) → anyLane (lanesAt cells (controlBase s.straps + off) 16) = false) → t = u)

/-- A list of written bytes is what a captured write sends to memory (R185): every word with an enabled byte whole, as the
capture leaves it, and the bytes at offsets that hold no word as written; no address twice. -/
def SentToMemory (s : State) (cells out : List Host.Cell) : Prop :=
  let wordOfByte := fun a : Nat => wordAt ((a - controlBase s.straps) / 4 * 4)
  (out.map (·.1)).Nodup
    ∧ ∀ a b, (a, b) ∈ out ↔
        (∃ w, (∃ c ∈ cells, wordOfByte c.1 = some w) ∧ (a, b) ∈ wordCells s w) ∨ ((a, b) ∈ cells ∧ wordOfByte a = none)

/-- A word taken with the value `v` for the merged value `m`: the shadow becomes `v`, and a difference is reported CLAMPED,
cause 0 (R185). -/
def takenWith (s : State) (w : CWord) (m v : Word) : State :=
  withReports { s with cc := s.cc.setWord w v }
    (if v = m then [] else [⟨.settingAdjusted, 0, BitVec.ofNat 32 w.offset, v⟩])

/-- A word refused with a cause: its shadow stays, and SETTING_ADJUSTED reports the value left in memory (R185). -/
def refusedWith (s : State) (w : CWord) (cause : Byte) : State :=
  withReports s [⟨.settingAdjusted, cause, BitVec.ofNat 32 w.offset, s.cc.word w⟩]

/-- Two words agree in every bit outside bits `lo` to `lo + len - 1`. -/
def SameOutside (m v : Word) (lo len : Nat) : Prop :=
  ∀ j, ¬ (lo ≤ j ∧ j < lo + len) → v.getLsbD j = m.getLsbD j

/-- REF_STATE as the Reference Unit hands it over: the new state, the previous one, the cause's code and the fault latch
(R89). -/
def refReport (new prev : Lock) (cause : Nat) (fault : Bool) : Report :=
  ⟨.refState, BitVec.ofNat 8 new.code, BitVec.ofNat 32 (prev.code + 256 * cause + 65536 * bit fault), 0⟩

/-- LINK_STATE as the Link Supervisor hands it over: the link, its previous state, its record as it stands after the change, and
the cause (R132). -/
def linkReport (l : Fin 24) (prev : LinkState) (r : LinkRecord) (cause : LinkCause) : Report :=
  ⟨.linkState, BitVec.ofNat 8 l.val,
    BitVec.ofNat 32 (prev.code + 16 * r.state.code + 256 * cause.code + 4096 * bit r.checkError + 8192 * bit r.framingError
      + 16384 * bit r.overrun + 32768 * bit r.inhibit + 65536 * r.miss), 0⟩

/-- A tile map header `v` is the adjustment of the merged header `m` (R94): tile count 1 to 16, tile width a multiple of 16
from 16 to 512, tile height 1 to 512, every other bit kept. -/
def HeaderAdjusted (m v : Word) : Prop :=
  SameOutside m v 3 25
    ∧ field v 3 5 = max 1 (min (field m 3 5) 16)
    ∧ field v 8 10 = max 16 (min (field m 8 10 / 16 * 16) 512)
    ∧ field v 18 10 = max 1 (min (field m 18 10) 512)

/-- A tile record `v` of a link is the adjustment of the merged record `m` (R95): the origin brought into range, then the enable
cleared if the tile's rectangle leaves the canvas, every other bit kept. -/
def RecordAdjusted (c : Shadow) (l : Fin 24) (m v : Word) : Prop :=
  field v 0 13 = min (field m 0 13 / 16 * 16) 7664
    ∧ field v 16 12 = min (field m 16 12) 2159
    ∧ (v.getLsbD 31 = true ↔ m.getLsbD 31 = true ∧ field v 0 13 + field (c.tiles[l])[0] 8 10 ≤ c.width
        ∧ field v 16 12 + field (c.tiles[l])[0] 18 10 ≤ c.height)
    ∧ ∀ j, (13 ≤ j ∧ j < 16) ∨ (28 ≤ j ∧ j < 31) → v.getLsbD j = m.getLsbD j

/-! ### Return packets (R200) -/

/-- `run` is the reception that some received bytes begin with, at a rate code: the bytes up to the first idle line of more than
one byte time, `rate + 1` ticks, after a stop bit, of whatever level that bit is (the model's choice: log entry 30). -/
def IsRun (rate : Nat) (bytes run : List RxByte) : Prop :=
  run ≠ [] ∧ ∃ rest, bytes = run ++ rest
    ∧ (∀ i a b, run[i]? = some a → run[i + 1]? = some b → b.start ≤ a.start + 2 * (rate + 1))
    ∧ (∀ a b, run.getLast? = some a → rest.head? = some b → a.start + 2 * (rate + 1) < b.start)

/-! ### Scan-out and lighting -/

/-- `t` is `s` after a mark is given to every enabled link, as its pending mark or into an empty shift at once, and a mark
notice with a frame event count to the Link Supervisor (R98, R111). -/
def MarksGiven (s t : State) (count : Word) (m : Mark) : Prop :=
  (∀ l : Fin 24,
    (s.cc.linkEnable l = false → t.tx[l] = s.tx[l])
    ∧ (s.cc.linkEnable l = true → (s.tx[l]).shift = none →
        t.tx[l] = { s.tx[l] with shift := some ⟨.mark m, s.now + 8 * s.cc.linkByteTicks l⟩ })
    ∧ (∀ x, s.cc.linkEnable l = true → (s.tx[l]).shift = some x → t.tx[l] = { s.tx[l] with mark := some m }))
    ∧ t = { s with tx := t.tx, lsv := { s.lsv with marks := s.lsv.marks ++ [⟨count, m⟩] } }

/-- A link is held ACTIVE or RECOVER, so that it takes part in a send that starts (R101). -/
def joins (s : State) (l : Fin 24) : Prop := (s.lsv.links[l]).state = .active ∨ (s.lsv.links[l]).state = .recover

/-- `t` is `s` after a send of a kind starts at the frame event of a count, of a bank that enters a state (R101, R126): the tag
counter raised, the resend request cleared, the active look's wall gain latched, a part at its first line for every ACTIVE or
RECOVER link, the primed and starved flags cleared, the RECOVER links joined with a report each in ascending number, and noted
while the event's own check is still to come (log entry 29), a claim raised if a link needs a fetch, and nothing else changed. -/
def SendStarted (s t : State) (count : Word) (kind : SendKind) (k : Fin 4) (st : BankState) : Prop :=
  ∃ parts : Vector (Option Part) 24,
    (∀ l : Fin 24,
      (joins s l → parts[l] = some
        { tiles := includedTiles s.cc l, tw := field (s.cc.tiles[l])[0] 8 10, th := field (s.cc.tiles[l])[0] 18 10,
          trim := ⟨field (s.cc.tiles[l])[1] 0 4, field (s.cc.tiles[l])[1] 8 4, field (s.cc.tiles[l])[1] 16 4⟩,
          tileAt := 0, line := 0, fetched := 0, assembly := [], complete := (includedTiles s.cc l).isEmpty })
      ∧ (¬ joins s l → parts[l] = none)
      ∧ t.so.links[l] = { s.so.links[l] with primed := false, starved := false }
      ∧ t.lsv.links[l] = (if (s.lsv.links[l]).state = .recover then { s.lsv.links[l] with state := .active, miss := 0 }
          else s.lsv.links[l])
      ∧ t.lsv.joined[l] = (if (s.lsv.links[l]).state = .recover then
            (if count ∈ s.lsv.frames.map (·.count) then some count else none)
          else s.lsv.joined[l]))
    ∧ (∀ j : Fin 4, t.banks[j] = if j = k then { s.banks[j] with state := st } else s.banks[j])
    ∧ t.so.claim = (s.so.claim || anyNeedsFetch t)
    ∧ t.rw.reports = s.rw.reports ++ (((List.finRange 24).filter fun l => (s.lsv.links[l]).state == .recover).map
        fun l => linkReport l .recover { s.lsv.links[l] with state := .active, miss := 0 } .joined)
    ∧ t = { s with
        banks := t.banks
        lsv := { s.lsv with links := t.lsv.links, joined := t.lsv.joined }
        rw := { s.rw with reports := t.rw.reports }
        so := { s.so with
          send := some ⟨kind, k, s.so.tag + 1, parts⟩, tag := s.so.tag + 1, resend := false,
          gain := (s.cc.look s.tu.look).wallGain, links := t.so.links, claim := t.so.claim } }

/-- `g` is the fixture `f` after a retarget to a new target with a fade of length `d` from the level as it stands (R164): no fade
where the target is the level, else a step of the difference divided by `d` and rounded up, and `d` frames. -/
def FadeSet (f g : Fixture) (target : RGB) (clipped : Bool) (d : Nat) : Prop :=
  g.level = f.level ∧ g.target = target ∧ g.clipped = clipped
    ∧ (target = f.level → g.step = ⟨0, 0, 0⟩ ∧ g.remaining = 0)
    ∧ (target ≠ f.level → g.remaining = d ∧ g.step =
        ⟨(absDiff target.r f.level.r + d - 1) / d, (absDiff target.g f.level.g + d - 1) / d,
          (absDiff target.b f.level.b + d - 1) / d⟩)

/-- `g` is the fixture `f` after its retarget from its entry, the gains in use and the answer of a mean query (R156 to R159, R163,
R164). -/
def Retargeted (f g : Fixture) (entry : Vector Word 4) (q : RGB) (answer : Option (Fin 4 × Vector (Option RGB) 64)) : Prop :=
  ∃ d : Nat,
    (fixFade entry = 0 → d = 1) ∧ (1 ≤ fixFade entry → fixFade entry ≤ 9 → d = 4 * fixFade entry)
    ∧ (10 ≤ fixFade entry → d = 40)
    ∧ (fixMode entry = 1 → answer = none → g = f)
    ∧ (∀ k means, fixMode entry = 1 → answer = some (k, means) → means[fixZone entry] = none → g = f)
    ∧ (∀ k means mean, fixMode entry = 1 → answer = some (k, means) → means[fixZone entry] = some mean →
        let r := mean.r * q.r * ((fixTrim entry).r + 17) / 64
        let gr := mean.g * q.g * ((fixTrim entry).g + 17) / 64
        let b := mean.b * q.b * ((fixTrim entry).b + 17) / 64
        FadeSet f g ⟨min 65535 r, min 65535 gr, min 65535 b⟩ (decide (65535 < r ∨ 65535 < gr ∨ 65535 < b)) d)
    ∧ (fixMode entry = 2 → FadeSet f g (fixLevels entry) false d)
    ∧ (fixMode entry ≠ 1 → fixMode entry ≠ 2 → FadeSet f g ⟨0, 0, 0⟩ false d)

/-- One component `y` of a level after one fade step from `x` towards a target (R165). -/
def ComponentStepped (x target step y : Nat) : Prop :=
  (x < target → y = min (x + step) target) ∧ (target < x → y = max (x - step) target) ∧ (x = target → y = x)

/-! ### Memory -/

/-- Every address outside a list of addresses reads in `t` as it reads in `s`. -/
def SameMemoryOutside (addrs : List Nat) (s t : State) : Prop :=
  ∀ a, a ∉ addrs → Memory.read t.mem a = Memory.read s.mem a

/-! ### The bank table (R3, R4, R5, R23) -/

/-- At most one bank meets a condition. -/
def AtMostOne (s : State) (p : BankState → Bool) : Prop :=
  ∀ i j : Fin 4, p (s.banks[i]).state = true → p (s.banks[j]).state = true → i = j

/-- A bank is being filled: FILLING or SEALING. -/
def BankState.fills : BankState → Bool
  | .filling | .sealing => true
  | _ => false

/-- A bank is committed and not yet sent, or about to be: SEALING or READY. -/
def BankState.waits : BankState → Bool
  | .sealing | .ready => true
  | _ => false

/-- A bank is being sent: SENDING or RESENDING. -/
def BankState.sends : BankState → Bool
  | .sending | .resending => true
  | _ => false

/-- A bank is on the wall: SHOWN or RESENDING. -/
def BankState.displays : BankState → Bool
  | .shown | .resending => true
  | _ => false

/-- The law of the bank table: at most one bank FILLING or SEALING, at most one SEALING or READY, at most one SENDING or
RESENDING, at most one SHOWN or RESENDING (R3); a bank RETIRING only while it is the copy source of the FILLING or SEALING
bank (R23); and a bank being sent only while a send is in progress (R97, R99). -/
def BankLaw (s : State) : Prop :=
  AtMostOne s BankState.fills ∧ AtMostOne s BankState.waits ∧ AtMostOne s BankState.sends ∧ AtMostOne s BankState.displays
    ∧ (∀ k : Fin 4, (s.banks[k]).state = .retiring →
        ∃ j : Fin 4, (s.banks[j]).state.fills = true ∧ (s.banks[j]).src = some k)
    ∧ (s.so.send = none → ∀ k : Fin 4, (s.banks[k]).state.sends = false)

/-- A map is lent to a bank. -/
def lentTo (s : State) (k : Fin 4) : Prop := s.map0.lentTo = some k ∨ s.map1.lentTo = some k

/-- The law of the written maps: with the law of the bank table, a map is lent exactly to the FILLING or SEALING bank, never
both maps to one bank, its marks rise strictly, and the bank's written segment count is the number of its marks (R4, R5). -/
def MapLaw (s : State) : Prop :=
  BankLaw s
    ∧ (∀ k : Fin 4, lentTo s k ↔ (s.banks[k]).state.fills = true)
    ∧ (∀ k : Fin 4, ¬ (s.map0.lentTo = some k ∧ s.map1.lentTo = some k))
    ∧ (∀ k : Fin 4, (s.banks[k]).state.fills = true →
        (marksOf s k).Pairwise (· < ·) ∧ (s.banks[k]).written = (marksOf s k).length)

/-! ### The report ring (R192 to R195) -/

/-- The records made and not yet shown by the producer index: the one whose index write is owed, and the queued ones. -/
def unshown (s : State) : Nat := bit s.rw.owed.isSome + s.rw.queue.length

/-- The law of the report ring. While it is off nothing is in it. While it is on, the three indices lie in it; the queued
records stand in slot order behind the record whose index write is owed and the producer index; the allocation index follows
the last of them; and the unconsumed records, written and not, are at most ring size − 1 (R193). An index claim waits exactly
while an index write is owed, and a record claim only while a record is queued (R194). -/
def RingLaw (s : State) : Prop :=
  let n := s.cc.ringSize
  (n = 0 → s.rw.alloc = 0 ∧ s.rw.prod = 0 ∧ s.rw.cons = 0 ∧ s.rw.queue = [] ∧ s.rw.owed = none)
    ∧ (0 < n →
        s.rw.alloc < n ∧ s.rw.prod < n ∧ s.rw.cons < n
        ∧ (∀ i, (h : i < s.rw.queue.length) →
            (s.rw.queue[i]).slot = (s.rw.prod + bit s.rw.owed.isSome + i) % n)
        ∧ (∀ v, s.rw.owed = some v → v = (s.rw.prod + 1) % n)
        ∧ s.rw.alloc = (s.rw.prod + unshown s) % n
        ∧ (s.rw.prod + n - s.rw.cons) % n + unshown s ≤ n - 1)
    ∧ s.rw.queue.length ≤ 64
    ∧ (s.rw.claim = some .index ↔ s.rw.owed.isSome = true)
    ∧ (s.rw.claim = some .record → s.rw.queue ≠ [])

/-! ### Placement (R187) -/

/-- The law of placement: the ranges in use pass the test of R187. -/
def PlacementLaw (s : State) : Prop := placementBad s.straps s.cc = false

/-! ### Settings (R53, R57, R76, R94, R95, R131, R140, R141, R153, R172, R186) -/

/-- The setting words in use lie in their ranges. -/
def SettingsLaw (c : Shadow) : Prop :=
  (c.width % 16 = 0 ∧ 16 ≤ c.width ∧ c.width ≤ 7680) ∧ (1 ≤ c.height ∧ c.height ≤ 2160)
    ∧ c.canvasBase % 0x100000 = 0 ∧ c.regionBase % 0x100000 = 0 ∧ c.orderCode ≤ 5
    ∧ c.ringBase % 16 = 0 ∧ c.ringCode ≤ 9
    ∧ (2 ≤ c.acquireCount ∧ c.acquireCount ≤ 15)
    ∧ (400000 ≤ c.period ∧ c.period ≤ 5000000) ∧ c.phaseOffset < c.period
    ∧ (1 ≤ c.tolerance ∧ c.tolerance ≤ 65535) ∧ (1 ≤ c.holdoverLimit ∧ c.holdoverLimit ≤ 255)
    ∧ c.rank.Perm (List.finRange 8)
    ∧ (∀ i : Fin 8, field c.setting[16] (2 * i.val) 2 ≤ 2) ∧ field c.setting[16] 16 2 ≤ 2
    ∧ (∀ l : Fin 2, 24 ≤ c.lampSlots l ∧ c.lampSlots l ≤ 512)
    ∧ (1 ≤ c.missLimit ∧ c.missLimit ≤ 15)

/-- The entries of the zone, fixture and tile tables and the look edit selector lie in their ranges: among them a zone's columns,
at most 479, and its rows, at most 2159, each pair in order (R56, R58). -/
def TablesLaw (c : Shadow) : Prop :=
  field c.command[5] 0 2 ≤ 2
    ∧ (∀ z : Fin 64, field (c.zones[z])[0] 8 5 ≤ 16 ∧ (zoneOf c.zones[z]).s0 ≤ (zoneOf c.zones[z]).s1
        ∧ (zoneOf c.zones[z]).s1 ≤ 479 ∧ (zoneOf c.zones[z]).y0 ≤ (zoneOf c.zones[z]).y1 ∧ (zoneOf c.zones[z]).y1 ≤ 2159)
    ∧ (∀ f : Fin 128, fixMode c.fixtures[f] ≤ 2)
    ∧ (∀ l : Fin 24, (1 ≤ field (c.tiles[l])[0] 3 5 ∧ field (c.tiles[l])[0] 3 5 ≤ 16)
        ∧ (field (c.tiles[l])[0] 8 10 % 16 = 0 ∧ 16 ≤ field (c.tiles[l])[0] 8 10 ∧ field (c.tiles[l])[0] 8 10 ≤ 512)
        ∧ (1 ≤ field (c.tiles[l])[0] 18 10 ∧ field (c.tiles[l])[0] 18 10 ≤ 512))
    ∧ (∀ (l : Fin 24) (r : Fin 32), 2 ≤ r.val → r.val < 18 →
        field (c.tiles[l])[r] 0 13 % 16 = 0 ∧ field (c.tiles[l])[r] 0 13 ≤ 7664 ∧ field (c.tiles[l])[r] 16 12 ≤ 2159)

/-! ### The Reference Unit (R77 to R87) -/

/-- The free-running times of a schedule. -/
def freeRuns (l : List Sched) : List Sched := l.filter (·.freeRun)

/-- The law of the Reference Unit: the schedule ascends and holds at most one free-running time, none while LOCKED and one in
INTERNAL, HOLDOVER and LOST (R79, R81, R83, R85); the pulse watch runs exactly while LOCKED (R82); INTERNAL is held exactly
while the mode in use is INTERNAL, with the last pulse time absent (R77, R85); and the good count is at most 15 (R78). -/
def ReferenceLaw (s : State) : Prop :=
  s.ru.schedule.Pairwise (fun a b => a.time ≤ b.time)
    ∧ (freeRuns s.ru.schedule).length ≤ 1
    ∧ (s.ru.lock = .locked → freeRuns s.ru.schedule = [])
    ∧ (s.ru.lock = .internal ∨ s.ru.lock = .holdover ∨ s.ru.lock = .lost → (freeRuns s.ru.schedule).length = 1)
    ∧ (s.ru.watch.isSome = true ↔ s.ru.lock = .locked)
    ∧ (s.ru.lock = .internal ↔ s.cc.modeInternal = true)
    ∧ (s.ru.lock = .internal → s.ru.lastPulse = none)
    ∧ s.ru.good ≤ 15 ∧ s.cc.acquireCount ≤ 15

/-! ### Tile links (R113, R120 to R124, R129) -/

/-- The law of link supervision: a link is OFF exactly while its enable in use is clear; an OFF link and an inhibited link
have an empty receive buffer; a miss count is at most 15, and below 15 while ACTIVE; the miss limit is at most 15; the
receiver's rate code is the one in use (R93, R200); and a noted join waits for the notice of its event (log entry 29). -/
def SupervisionLaw (s : State) : Prop :=
  s.cc.missLimit ≤ 15
    ∧ ∀ l : Fin 24,
      ((s.lsv.links[l]).state = .off ↔ s.cc.linkEnable l = false)
      ∧ ((s.lsv.links[l]).state = .off ∨ (s.lsv.links[l]).inhibit = true → (s.lsv.links[l]).buffer = none)
      ∧ (s.lsv.links[l]).miss ≤ 15 ∧ ((s.lsv.links[l]).state = .active → (s.lsv.links[l]).miss < 15)
      ∧ (∀ t, s.now ≤ t → rateAt s l t = field (s.cc.tiles[l])[0] 1 2)
      ∧ (∀ n, s.lsv.joined[l] = some n → ∃ f ∈ s.lsv.frames, f.count = n)

/-- The law of starvation: a starved link takes part in the send in progress, is primed, and its stage is empty (R113), so
that the Scan-Out Engine is urgent only during a send (R51). -/
def StarveLaw (s : State) : Prop :=
  ∀ l : Fin 24, (s.so.links[l]).starved = true →
    (partOf s l).isSome = true ∧ (s.so.links[l]).primed = true ∧ (s.tx[l]).stage = none

/-! ### Fades (R155, R164 to R166) -/

/-- One component of a fixture is on a fade that its remaining steps cover: both ends in range, and the distance at most the
remaining frames times the step. -/
def ComponentLaw (level target step remaining : Nat) : Prop :=
  level ≤ 65535 ∧ target ≤ 65535 ∧ step ≤ 65535 ∧ absDiff level target ≤ remaining * step

/-- The law of the fades, for every fixture and component (R166): levels, targets and steps lie in their ranges, at most 40
frames remain, and the frames that remain suffice to reach the target; so a fixture with none remaining is at its target. -/
def FadeLaw (s : State) : Prop :=
  ∀ i : Fin 128,
    (s.le.fixtures[i]).remaining ≤ 40
    ∧ ComponentLaw (s.le.fixtures[i]).level.r (s.le.fixtures[i]).target.r (s.le.fixtures[i]).step.r (s.le.fixtures[i]).remaining
    ∧ ComponentLaw (s.le.fixtures[i]).level.g (s.le.fixtures[i]).target.g (s.le.fixtures[i]).step.g (s.le.fixtures[i]).remaining
    ∧ ComponentLaw (s.le.fixtures[i]).level.b (s.le.fixtures[i]).target.b (s.le.fixtures[i]).step.b (s.le.fixtures[i]).remaining

/-! ### The System Port and the arbiter (R34, R50, R52) -/

/-- The law of the port and the arbiter: an IDLE or stalled port raises no claim; while an SP read or a pre-read is on the
channel the port waits for its data without a claim; every pass-over count is at most 16, and it is 0 for a claimant with no
claim waiting (R52). -/
def ArbiterLaw (s : State) : Prop :=
  (s.port.phase = .idle → s.port.claim = false)
    ∧ (∀ seg lanes, s.port.phase = .sealStall seg lanes → s.port.claim = false)
    ∧ (∀ data, s.channel = .spRead data → s.port.claim = false ∧ ∃ picks got, s.port.phase = .readAccess picks got)
    ∧ (∀ data, s.channel = .preRead data →
        s.port.claim = false ∧ ∃ bank src seg lanes rewrite, s.port.phase = .preRead bank src seg lanes rewrite)
    ∧ ∀ c : Claimant, s.passed.get c ≤ 16 ∧ (waiting s c = false → s.passed.get c = 0)

end Sys2Proof.Machine
end

