-- ==== Sys2Proof/Certificates/Slice0/Obligations.lean ====
section
/-! DEFINITION. The statements for the provers. Statements about a control word are about its capture (`captureMerged`), to
which `Obligations.ControlWordWritesAreCaptured` takes every command that writes one. -/

section

open Sys2Proof Sys2Proof.Machine

/-! ### The machine -/

/-- A step runs the command at the front of the queue on the part, with the rest of the queue left. -/
def Obligations.StepRunsTheFrontCommand : Prop :=
  ∀ (c : Instr) (rest : List Instr) (s : State), s.pending = c :: rest → step s = exec c { s with pending := rest }

/-- Every command leaves the queue alone (the queue is the model's own, log entry 4): what is waiting stays waiting, in
order. -/
def Obligations.CommandsLeaveTheQueueAlone : Prop :=
  ∀ (c : Instr) (s t : State), exec c s = .next t → t.pending = s.pending

/-- R49, R50: memory changes at the grants of the arbiter alone. No command but ARBITER_GRANT, and POWER_ON_RESET with a write on
the channel, changes a byte of it; and ARBITER_GRANT changes no byte outside the write that it grants. -/
def Obligations.OnlyGrantedWritesChangeMemory : Prop :=
  (∀ (c : Instr) (s t : State), (∀ tick, c ≠ .arbiterGrant tick) → (∀ straps levels, c ≠ .powerOnReset straps levels) →
      exec c s = .next t → t.mem = s.mem)
    ∧ (∀ (tick : Nat) (who : Claimant) (s t : State), arbiterChoice (atTime s tick) = some who →
        exec (.arbiterGrant tick) s = .next t → SameMemoryOutside (accessOf (atTime s tick) who).addrs s t)
    ∧ (∀ (tick : Nat) (who : Claimant) (addrs : List Nat) (s t : State), arbiterChoice (atTime s tick) = some who →
        accessOf (atTime s tick) who = .read addrs → exec (.arbiterGrant tick) s = .next t → t.mem = s.mem)

/-! ### Invariants that every step keeps -/

/-- Memory keeps its canonical form: addresses rising strictly, no byte listed that an unlisted address reads as. -/
def Obligations.StepKeepsMemoryCanonical : Prop :=
  ∀ s t : State, Memory.wf s.mem = true → step s = .next t → Memory.wf t.mem = true

/-- R3, R4, R5, R23: the law of the bank table, and the law of the written maps that goes with it. -/
def Obligations.StepKeepsTheBankAndMapLaws : Prop :=
  (∀ s t : State, BankLaw s → step s = .next t → BankLaw t) ∧ (∀ s t : State, MapLaw s → step s = .next t → MapLaw t)

/-- R193: the report ring never holds more than ring size − 1 unconsumed records, and its records stand in slot order. -/
def Obligations.StepKeepsTheRingLaw : Prop := ∀ s t : State, RingLaw s → step s = .next t → RingLaw t

/-- R53, R56, R57, R58, R76, R94, R95, R131, R140, R141, R147, R153, R172, R186: the setting words and the table entries in use
stay in their ranges, zone columns at most 479 and zone rows at most 2159 (R56) among them, and the tally rank stays a list of the
eight inputs, each once. R187: the ranges in use keep passing the placement test, so that the report ring and the bank region keep
clear of the control window. -/
def Obligations.StepKeepsTheControlWordsInRange : Prop :=
  (∀ s t : State, SettingsLaw s.cc → step s = .next t → SettingsLaw t.cc)
    ∧ (∀ s t : State, SettingsLaw s.cc → TablesLaw s.cc → step s = .next t → TablesLaw t.cc)
    ∧ (∀ s t : State, PlacementLaw s → step s = .next t → PlacementLaw t)
    ∧ (∀ s : State, PlacementLaw s → WindowClear s)

/-- R79, R81 to R83, R85: the law of the Reference Unit. -/
def Obligations.StepKeepsTheReferenceLaw : Prop := ∀ s t : State, ReferenceLaw s → step s = .next t → ReferenceLaw t

/-- R113, R120 to R124, R126, R129, R200: the law of link supervision (its joins and rate codes kept as log entries 29 and 17
say); and the law of starvation, by which a starved link takes part in the
send in progress, is primed, and has an empty stage. -/
def Obligations.StepKeepsTheLinkLaws : Prop :=
  (∀ s t : State, SupervisionLaw s → step s = .next t → SupervisionLaw t)
    ∧ (∀ s t : State, StarveLaw s → step s = .next t → StarveLaw t)

/-- R166: every fixture's level lies between 0 and 65535, and the frames that remain of a fade suffice to reach its target. -/
def Obligations.StepKeepsTheFadeLaw : Prop := ∀ s t : State, FadeLaw s → step s = .next t → FadeLaw t

/-- R52: pass-over counts are at most 16, and 0 for a claimant that does not wait. -/
def Obligations.StepKeepsTheArbiterLaw : Prop := ∀ s t : State, ArbiterLaw s → step s = .next t → ArbiterLaw t

/-- The state after reset meets every law that a step keeps. -/
def Obligations.ResetMeetsEveryLaw : Prop :=
  Memory.wf State.reset.mem = true ∧ MapLaw State.reset ∧ RingLaw State.reset ∧ SettingsLaw State.reset.cc
    ∧ TablesLaw State.reset.cc ∧ PlacementLaw State.reset ∧ ReferenceLaw State.reset ∧ SupervisionLaw State.reset
    ∧ StarveLaw State.reset
    ∧ FadeLaw State.reset ∧ ArbiterLaw State.reset

/-! ### Power-on reset -/

/-- R29, R55, R92, R97, R119, R134, R135, R155, R174, R191, R199: POWER_ON_RESET completes from every state, and leaves every block
at the values the tables of the chapters give. DRAM stays, but for the bytes of a write that stood granted (a free value, log
entry 11). That the requests waiting outside the part and the responses returned stay is the model's choice (log entry 8), and so
is 0 in every bit of a control word that belongs to no field (log entry 19). -/
def Obligations.PowerOnResetSetsEveryBlock : Prop :=
  ∀ (straps : BitVec 2) (levels : BitVec 8) (s : State), ∃ t : State,
    exec (.powerOnReset straps levels) s = .next t
    ∧ t.straps = straps ∧ t.cc = Shadow.powerOn
    ∧ (t.cc.running = false ∧ t.cc.copyForward = true ∧ t.cc.attentionEnable = false ∧ t.cc.width = 1920 ∧ t.cc.height = 1080
        ∧ t.cc.canvasBase = 0 ∧ t.cc.regionBase = 0x10000000 ∧ t.cc.orderCode = 0 ∧ t.cc.ringBase = 0x0F000000
        ∧ t.cc.ringCode = 0 ∧ (∀ code, 1 ≤ code → code ≤ 9 → t.cc.kindEnabled code = true))
    ∧ (t.cc.modeInternal = false ∧ t.cc.acquireCount = 6 ∧ t.cc.period = 2000000 ∧ t.cc.tolerance = 500
        ∧ t.cc.phaseOffset = 0 ∧ t.cc.holdoverLimit = 50 ∧ t.cc.missLimit = 4)
    ∧ ((∀ i : Fin 8, t.cc.edgeMode i = 0 ∧ t.cc.rankAt i.val = i ∧ t.cc.cameraLook i = .a) ∧ t.cc.defaultLook = .a
        ∧ t.cc.selected = .a ∧ ∀ l : Look, (t.cc.look l).wallGain = 255 ∧ (t.cc.look l).gains = ⟨128, 128, 128⟩)
    ∧ (∀ l : Fin 2, t.cc.lampEnable l = false ∧ t.cc.lampSlots l = 512 ∧ t.cc.lampByteTicks l = 4000)
    ∧ (∀ z : Fin 64, zoneOf t.cc.zones[z] = ⟨false, 0, 0, 0, 0, none⟩)
    ∧ (∀ i : Fin 128, let w := t.cc.fixtures[i]
        fixMode w = 0 ∧ fixZone w = 0 ∧ fixLink w = 0 ∧ fixSlot w = 0 ∧ fixTrim w = ⟨15, 15, 15⟩ ∧ fixFade w = 0
          ∧ fixLevels w = ⟨0, 0, 0⟩)
    ∧ (∀ l : Fin 24, t.cc.linkEnable l = false ∧ t.cc.linkByteTicks l = 1 ∧ field (t.cc.tiles[l])[0] 3 5 = 1
        ∧ field (t.cc.tiles[l])[0] 8 10 = 16 ∧ field (t.cc.tiles[l])[0] 18 10 = 1 ∧ (t.cc.tiles[l])[1] = 0x000F0F0F
        ∧ ∀ r : Fin 32, 2 ≤ r.val → (t.cc.tiles[l])[r] = 0)
    ∧ (t.port.phase = .startup 0 levels ∧ t.port.claim = true ∧ t.port.arrived = s.port.arrived
        ∧ t.port.responses = s.port.responses)
    ∧ (t.wd.discards = 0 ∧ t.wd.reported = false)
    ∧ (t.channel = .free ∧ ∀ c : Claimant, t.passed.get c = 0 ∧ (c ≠ .sp → waiting t c = false))
    ∧ (∀ k : Fin 4, (t.banks[k]).state = .free ∧ (t.banks[k]).host = none ∧ (t.banks[k]).written = 0
        ∧ (t.banks[k]).src = none ∧ (t.banks[k]).progress = 0
        ∧ ∀ z : Fin 64, (t.banks[k]).geom[z] = ⟨false, 0, 0, 0, 0, none⟩ ∧ (t.banks[k]).acc[z] = ⟨⟨0, 0, 0⟩, 0, false⟩)
    ∧ (t.map0.lentTo = none ∧ t.map1.lentTo = none ∧ t.nextMap = false ∧ t.copy = .idle)
    ∧ t.ru = ⟨.acquire, none, 0, 0, [], 2000000, none, none, false, 0⟩
    ∧ (t.so.send = none ∧ t.so.tag = 0 ∧ t.so.lastShown = 0 ∧ t.so.gain = 255 ∧ t.so.resend = false ∧ t.so.served = 23)
    ∧ (∀ l : Fin 24, t.so.links[l] = ⟨false, false, 0, 0⟩ ∧ t.tx[l] = ⟨none, none, none⟩
        ∧ t.lsv.links[l] = ⟨.off, none, 0, false, false, false, false⟩)
    ∧ (t.lsv.expected = none ∧ ∀ l : Fin 24, t.lsv.joined[l] = none ∧ ∀ x, rateAt t l x = 0)
    ∧ (t.tu.levels = levels ∧ t.tu.pending = 0 ∧ t.tu.overrun = 0 ∧ t.tu.camera = none ∧ t.tu.look = .a)
    ∧ (∀ i : Fin 128, t.le.fixtures[i] = ⟨⟨0, 0, 0⟩, ⟨0, 0, 0⟩, ⟨0, 0, 0⟩, 0, false⟩)
    ∧ t.le.gains = ⟨128, 128, 128⟩ ∧ (∀ l : Fin 2, t.lamps[l] = ⟨.empty, none, 0⟩)
    ∧ (t.rw.alloc = 0 ∧ t.rw.prod = 0 ∧ t.rw.cons = 0 ∧ t.rw.queue = [] ∧ t.rw.lost = false ∧ t.rw.owed = none
        ∧ t.rw.image = powerOnImage levels ∧ ∀ i : Fin 4, t.rw.outstanding[i] = false)
    ∧ ∀ a : Nat, (∀ undo, s.channel = .write undo → a ∉ undo.map (·.1)) → Memory.read t.mem a = Memory.read s.mem a

/-- R36: power-on reset places the control window by the straps, at k × 1 GiB + 1 GiB − 16 KiB, for 16 KiB; no other command
moves it; and the status block is its offsets 0x200 to 0x2FF. As R38 classes addresses: the status block's range is exactly those
offsets, and with the other shielded ranges off the window, as R187 keeps them, the control class covers exactly the rest of the
16 KiB. -/
def Obligations.StrapsPlaceTheControlWindow : Prop :=
  (∀ (straps : BitVec 2) (levels : BitVec 8) (s : State), ∃ t, exec (.powerOnReset straps levels) s = .next t ∧ t.straps = straps)
    ∧ (∀ (c : Instr) (s t : State), (∀ straps levels, c ≠ .powerOnReset straps levels) → exec c s = .next t →
        t.straps = s.straps)
    ∧ (∀ straps : BitVec 2, controlBase straps + 16384 = straps.toNat * 1073741824 + 1073741824)
    ∧ (controlBase 0 = 0x3FFFC000 ∧ controlBase 1 = 0x7FFFC000 ∧ controlBase 2 = 0xBFFFC000 ∧ controlBase 3 = 0xFFFFC000)
    ∧ (∀ (s : State) (a : Nat), s.classOf a = .shielded .statusBlock ↔
        controlBase s.straps + 0x200 ≤ a ∧ a < controlBase s.straps + 0x300)
    ∧ (∀ (s : State) (a : Nat), WindowClear s →
        (s.classOf a = .control ∨ s.classOf a = .shielded .statusBlock ↔
          controlBase s.straps ≤ a ∧ a < controlBase s.straps + 16384))

/-! ### Requests at the System Port -/

/-- R32: a request taken in IDLE that is misaligned, has a beat count outside 1 to 4 or crosses a 64-byte block is refused, with
the first reason that holds in that order: an ERROR response and a PORT_ERROR report, and nothing else of the part changes. -/
def Obligations.BadRequestsAreRefused : Prop :=
  ∀ (tick : Nat) (r : Request) (s : State) (reason : Byte), PortReady s →
    let a := r.addr.toNat
    let n := r.beats.toNat
    (reason = 0 ∧ a % 4 ≠ 0)
      ∨ (reason = 1 ∧ a % 4 = 0 ∧ ¬ (1 ≤ n ∧ n ≤ 4))
      ∨ (reason = 2 ∧ a % 4 = 0 ∧ 1 ≤ n ∧ n ≤ 4 ∧ 64 < a % 64 + 16 * n) →
    exec (.plainRequest tick r) s =
      .next (withReports
        { s with now := max s.now tick, port := { s.port with responses := s.port.responses ++ [.error] } }
        [⟨.portError, reason, r.addr, BitVec.ofNat 32 ((if r.kind = .write then 1 else 0) + 256 * n)⟩])

/-- R35, R40, R42: in IDLE, a valid WRITE with every enable clear finishes at once with DONE and no effect; a valid READ with no
byte of the canvas itself is claimed as one access to its own addresses; a valid WRITE of plain bytes, or of bytes in the tail
of the canvas window beyond the last row, as PLAIN_REQUEST or CANVAS_WRITE, is claimed as one access of its enabled bytes. (One
that loses bytes: `Obligations.ShieldedBytesAreDiscarded`.) -/
def Obligations.PlainRequestsGoToTheirOwnAddresses : Prop :=
  ∀ (tick : Nat) (r : Request) (s : State), PortReady s → requestError r = none →
    (r.kind = .write → reqCells r = [] →
      exec (.plainRequest tick r) s =
        .next { s with now := max s.now tick, port := { s.port with responses := s.port.responses ++ [.done] } })
    ∧ (r.kind = .read → (∀ a ∈ reqAddrs r, s.classOf a = .canvas → s.cc.width * 4 * s.cc.height ≤ a - s.cc.canvasBase) →
      exec (.plainRequest tick r) s =
        .next { s with now := max s.now tick,
                       port := { s.port with
                         phase := .readAccess ((reqAddrs r).map fun a => ⟨true, a⟩) none, claim := true } })
    ∧ (r.kind = .write → reqCells r ≠ [] → (∀ c ∈ reqCells r, s.classOf c.1 = .plain)
        ∨ (∀ c ∈ reqCells r, s.classOf c.1 = .canvas ∧ s.cc.width * 4 * s.cc.height ≤ c.1 - s.cc.canvasBase) →
      exec (.plainRequest tick r) s = .next (serving (atTime s tick) (reqCells r))
      ∧ ∀ offset beats lanes, r = writeRequest (s.cc.canvasBase + offset.toNat) beats lanes →
          exec (.canvasWrite tick offset beats lanes) s = .next (serving (atTime s tick) (reqCells r)))

/-- R39, R42: in IDLE, a valid WRITE with a shielded enabled byte, whose other enabled bytes are all plain or all in the tail of
the canvas window beyond the last row, loses its shielded bytes: the discard count rises by one; the first such write since the
flag was cleared reports SHIELD_DISCARD with the request's address and the range of its first discarded byte; what is left is
claimed at its own addresses, and with nothing left the write finishes at once with DONE. It is the same as SHIELDED_WRITE, as
PLAIN_REQUEST and as CANVAS_WRITE. (A write that loses bytes out of the canvas itself:
`Obligations.CanvasWritesGoToTheFillingBank`.) -/
def Obligations.ShieldedBytesAreDiscarded : Prop :=
  ∀ (tick : Nat) (first : ShieldRange) (r : Request) (a : Nat) (s : State),
    PortReady s → r.kind = .write → requestError r = none →
    (∀ c ∈ reqCells r, s.classOf c.1 = .plain ∨ (s.classOf c.1).isShielded = true)
      ∨ (∀ c ∈ reqCells r, (s.classOf c.1 = .canvas ∧ s.cc.width * 4 * s.cc.height ≤ c.1 - s.cc.canvasBase)
          ∨ (s.classOf c.1).isShielded = true) →
    ((reqCells r).map (·.1)).find? (fun x => (s.classOf x).isShielded) = some a →
    s.classOf a = .shielded first →
    let left := (reqCells r).filter fun c => (s.classOf c.1).isShielded = false
    let s1 := withReports
      { s with now := max s.now tick, wd := { s.wd with discards := s.wd.discards + 1, reported := true } }
      (if s.wd.reported then [] else [⟨.shieldDiscard, BitVec.ofNat 8 (shieldCode first), r.addr, 0⟩])
    let t := if left = [] then { s1 with port := { s1.port with responses := s1.port.responses ++ [.done] } } else serving s1 left
    (∀ g offset beats lanes, r = writeRequest (s.shieldBase g + offset.toNat) beats lanes →
      exec (.shieldedWrite tick g offset beats lanes) s = .next t)
    ∧ exec (.plainRequest tick r) s = .next t
    ∧ (∀ offset beats lanes, r = writeRequest (s.cc.canvasBase + offset.toNat) beats lanes →
      exec (.canvasWrite tick offset beats lanes) s = .next t)

/-- R6, R38, R39, R43, R44: in IDLE, a valid canvas WRITE with an enabled byte goes to the FILLING bank; with none FILLING and a
bank SEALING it is held, in SEAL_STALL; with neither, the lowest-numbered FREE bank is opened and takes it. The segment is
floor(offset / 64). Enabled bytes that fall in a shielded range, as the report ring's may, are lost first, counted and reported;
the write goes on with those that are left, as a partial write of the segment, and with none left it finishes with DONE. A held
write has lost its shielded bytes, counted and reported, before it is held: the model's reading, log entry 23. -/
def Obligations.CanvasWritesGoToTheFillingBank : Prop :=
  (∀ (s : State) (st : BankState),
    (∀ k, bankIn s st = some k → (s.banks[k]).state = st ∧ ∀ j : Fin 4, j < k → (s.banks[j]).state ≠ st)
    ∧ (bankIn s st = none → ∀ j : Fin 4, (s.banks[j]).state ≠ st))
  ∧ ∀ (tick : Nat) (offset : Word) (beats : Byte) (lanes : List Lane) (s : State), PortReady s → SettingsLaw s.cc →
    s.cc.canvasBase + offset.toNat < Config.memoryBytes → offset.toNat < s.cc.width * 4 * s.cc.height →
    let r := writeRequest (s.cc.canvasBase + offset.toNat) beats lanes
    requestError r = none → reqCells r ≠ [] →
    (∀ c ∈ reqCells r, s.classOf c.1 = .canvas ∨ (s.classOf c.1).isShielded = true) →
    ∀ s1 : State, DiscardsNoted (atTime s tick) s1 r →
    let left := (reqCells r).filter fun c => s.classOf c.1 = .canvas
    let seg := offset.toNat / 64
    let held := (List.range 64).map fun i => cellAt left (s.cc.canvasBase + 64 * seg + i)
    (left = [] → exec (.canvasWrite tick offset beats lanes) s =
        .next { s1 with port := { s1.port with responses := s1.port.responses ++ [.done] } })
    ∧ (∀ k, left ≠ [] → bankIn s .filling = some k →
      exec (.canvasWrite tick offset beats lanes) s = .next (steerWrite s1 k seg held))
    ∧ (∀ k, left ≠ [] → bankIn s .filling = none → bankIn s .sealing = some k →
      exec (.canvasWrite tick offset beats lanes) s = .next { s1 with port := { s1.port with phase := .sealStall seg held } })
    ∧ (∀ k, left ≠ [] → bankIn s .filling = none → bankIn s .sealing = none → bankIn s .free = some k →
      exec (.canvasWrite tick offset beats lanes) s = .next (steerWrite (openBank s1 k) k seg held))

/-- R9 to R11, R65: the three ways of a write into a bank that holds a map. A rewrite holds the port for a pre-read of the bank
itself. A full write into an unmarked segment is marked, counted and added to the zones it belongs to, and its 64 bytes are
claimed. A partial one is marked and counted, and holds the port for a pre-read of the copy source if the copy has not passed
the segment, else of the bank itself. Nothing else of the bank, of the port or of the part changes. -/
def Obligations.RenderWritesTakeOneOfThreeWays : Prop :=
  ∀ (s : State) (k : Fin 4) (seg : Nat) (lanes : List Lane), lanes.length = 64 → lentTo s k →
    let t := steerWrite s k seg lanes
    let bytes := lanes.map fun l => l.getD 0
    (isMarked s k seg = true →
      t = { s with port := { s.port with phase := .preRead k k seg lanes true, claim := true } })
    ∧ (isMarked s k seg = false →
      t.banks[k] = { s.banks[k] with written := (s.banks[k]).written + 1, acc := (t.banks[k]).acc }
      ∧ t.port = { s.port with phase := t.port.phase, claim := true }
      ∧ (∀ q, isMarked t k q = true ↔ isMarked s k q = true ∨ q = seg)
      ∧ (∀ j, j ≠ k → t.banks[j] = s.banks[j])
      ∧ t = { s with port := t.port, banks := t.banks, map0 := t.map0, map1 := t.map1 }
      ∧ ((∀ l ∈ lanes, l.isSome = true) →
          t.port.phase = .writeAccess (cellsFrom (s.cc.segmentAddr k seg) bytes)
          ∧ ∀ z : Fin 64, (t.banks[k]).acc[z] =
              if segmentInZone s.cc.columns (s.banks[k]).geom[z] seg = true
              then ((s.banks[k]).acc[z]).plus ((s.banks[k]).geom[z]).clip bytes else (s.banks[k]).acc[z])
      ∧ (¬ (∀ l ∈ lanes, l.isSome = true) →
          (t.banks[k]).acc = (s.banks[k]).acc
          ∧ (∀ j, (s.banks[k]).src = some j → (s.banks[k]).progress < s.cc.segments → (s.banks[k]).progress ≤ seg →
              t.port.phase = .preRead k j seg lanes false)
          ∧ ((s.banks[k]).src = none ∨ seg < (s.banks[k]).progress → t.port.phase = .preRead k k seg lanes false)))

/-- R4, R7, R8, R17, R60, R61: a bank that opens is FILLING with nothing written and no host frame number; it holds the next map to
lend, cleared, and the other map is the next; it latches the staged zone table and clears its accumulators, skipping the
disabled zones; and with copy-forward enabled and a committed bank held it copies from the newest of them from segment 0, else
its copy is done. The engine takes up its first copy step in the step of the opening (R17; log entry 25, the model's reading). -/
def Obligations.OpeningABankStartsAFill : Prop :=
  (∀ s : State,
    (∀ k, bankSending s = some k → (s.banks[k]).state.sends = true)
    ∧ (bankSending s = none → ∀ k : Fin 4, (s.banks[k]).state.sends = false)
    ∧ newestCommitted s = ((bankIn s .ready).or (bankSending s)).or (bankIn s .shown))
  ∧ ∀ (s : State) (k : Fin 4), 0 < s.cc.segments → ¬ lentTo s k →
    let t := openBank s k
    (t.banks[k]).state = .filling ∧ (t.banks[k]).host = none ∧ (t.banks[k]).written = 0
    ∧ (∀ z : Fin 64, (t.banks[k]).geom[z] = zoneOf s.cc.zones[z]
        ∧ (t.banks[k]).acc[z] = ⟨⟨0, 0, 0⟩, 0, !(zoneOf s.cc.zones[z]).enable⟩)
    ∧ (∀ q, isMarked t k q = false) ∧ t.nextMap = !s.nextMap
    ∧ (s.nextMap = false → t.map0.lentTo = some k ∧ t.map1 = s.map1)
    ∧ (s.nextMap = true → t.map1.lentTo = some k ∧ t.map0 = s.map0)
    ∧ (∀ j, s.cc.copyForward = true → newestCommitted s = some j →
        (t.banks[k]).src = some j ∧ (t.banks[k]).progress = 0 ∧ t.copy = .wantRead)
    ∧ (s.cc.copyForward = false ∨ newestCommitted s = none →
        (t.banks[k]).src = none ∧ (t.banks[k]).progress = s.cc.segments ∧ t.copy = s.copy)
    ∧ (∀ j, j ≠ k → t.banks[j] = s.banks[j])
    ∧ t = { s with banks := t.banks, map0 := t.map0, map1 := t.map1, nextMap := t.nextMap, copy := t.copy }

/-- R40, R46, R47: a valid canvas READ taken in IDLE is claimed from the bank that serves its segment, at that bank's base plus
the offset, or from its own address if no bank serves it. A valid READ of any bytes, as of the report ring and the canvas
together, is claimed so for its canvas bytes, its second access, and at their own addresses for the others, its first. With a bank
FILLING or SEALING, that is the target if the segment is marked there or the copy has passed it or is done, else the copy source;
with none, the newest committed bank. -/
def Obligations.CanvasReadsAreRedirected : Prop :=
  (∀ (tick : Nat) (offset : Word) (beats : Byte) (s : State), PortReady s → SettingsLaw s.cc →
    s.cc.canvasBase + offset.toNat < Config.memoryBytes → offset.toNat < s.cc.width * 4 * s.cc.height →
    let r : Request := ⟨.read, BitVec.ofNat 32 (s.cc.canvasBase + offset.toNat), beats, []⟩
    requestError r = none → (∀ a ∈ reqAddrs r, s.classOf a = .canvas) →
    let s1 := atTime s tick
    exec (.canvasRead tick offset beats) s =
      .next { s1 with port := { s1.port with
        phase := .readAccess ((reqAddrs r).map fun a =>
          ⟨false, match readBank s (offset.toNat / 64) with
            | some k => s.cc.bankAddr k + (a - s.cc.canvasBase)
            | none => a⟩) none
        claim := true } })
    ∧ (∀ (tick : Nat) (r : Request) (s : State), PortReady s → requestError r = none → r.kind = .read →
      let s1 := atTime s tick
      exec (.plainRequest tick r) s =
        .next { s1 with port := { s1.port with
          phase := .readAccess ((reqAddrs r).map fun a =>
            if s.classOf a = .canvas ∧ a - s.cc.canvasBase < s.cc.width * 4 * s.cc.height then
              ⟨false, match readBank s ((a - s.cc.canvasBase) / 64) with
                | some k => s.cc.bankAddr k + (a - s.cc.canvasBase)
                | none => a⟩
            else ⟨true, a⟩) none
          claim := true } })
    ∧ (∀ s : State, bankTarget s = (bankIn s .filling).or (bankIn s .sealing))
    ∧ (∀ (s : State) (seg : Nat) (k : Fin 4), bankTarget s = some k →
      (isMarked s k seg = true → readBank s seg = some k)
      ∧ (∀ j, isMarked s k seg = false → (s.banks[k]).src = some j → (s.banks[k]).progress < s.cc.segments →
          (s.banks[k]).progress ≤ seg → readBank s seg = some j)
      ∧ (isMarked s k seg = false → (s.banks[k]).src = none ∨ seg < (s.banks[k]).progress → readBank s seg = some k))
    ∧ (∀ (s : State) (seg : Nat), bankTarget s = none →
      (∀ k, bankIn s .ready = some k → readBank s seg = some k)
      ∧ (∀ k, bankIn s .ready = none → bankSending s = some k → readBank s seg = some k)
      ∧ (∀ k, bankIn s .ready = none → bankSending s = none → bankIn s .shown = some k → readBank s seg = some k)
      ∧ (bankIn s .ready = none → bankSending s = none → bankIn s .shown = none → readBank s seg = none))

/-! ### Writes of control words -/

/-- R185, R190: in IDLE, with the shielded ranges off the control window, every command that writes one control word and
enables a byte of it is taken at once: the word is captured with the value merged from its shadow and the enabled bytes, and the
port claims one write of the whole word as the capture leaves it (the rows' operand forms: log entry 13). The look edit selector has
a statement of its own. -/
def Obligations.ControlWordWritesAreCaptured : Prop :=
  ∀ (c : Instr) (s : State) (tick : Nat) (w : CWord) (en : BitVec 4) (v : Word), ControlReady s →
    wordCommand s c = some (tick, w, en, v) → en ≠ 0 →
    let s1 := captureMerged (atTime s tick) w (mergeWord (s.cc.word w) (wordLanes en v))
    exec c s = .next (serving s1 (wordCells s1 w))

/-- R147, R153, R184, R185: in IDLE, a write of a zone or fixture entry captures the words it enables in ascending order and claims
one write of them whole (its one-beat form: log entry 13); a fixture entry's write gives its end, the UNPLACED test and the entry
notice, once and after its words (log entry 22). A control write of any words is captured word by word in ascending offset, each
fixture entry's end after that entry's words, and claims one write of the captured words whole and of the other bytes as written;
a changed edit selector adds the refresh writes (log entry 21). A control write at offsets that hold no word is captured by
nothing, and the report kind mask is taken as merged. -/
def Obligations.EntryAndOtherControlWritesAreCaptured : Prop :=
  ∀ (tick : Nat) (s : State), ControlReady s →
    (∀ (z : Fin 64) (lanes : List Lane), lanes.length = 16 → anyLane lanes = true →
      let words := entryWords (fun i => .zone z i) lanes
      let s1 := captureWords (atTime s tick) words
      exec (.zoneEntryWrite tick z lanes) s = .next (serving s1 (entryCells s1 words)))
    ∧ (∀ (f : Fin 128) (lanes : List Lane), lanes.length = 16 → anyLane lanes = true →
      let words := entryWords (fun i => .fixture f i) lanes
      let s1 := entryWritten (captureWords (atTime s tick) words) f
      exec (.fixtureEntryWrite tick f lanes) s = .next (serving s1 (entryCells s1 words)))
    ∧ (∀ (offset : BitVec 14) (beats : Byte) (lanes : List Lane),
      let r := writeRequest (controlBase s.straps + offset.toNat) beats lanes
      requestError r = none → reqCells r ≠ [] → (∀ c ∈ reqCells r, s.classOf c.1 = .control) →
      let block := offset.toNat / 64 * 64
      ∀ s1 s2 s3 s4 : State,
        QuarterCaptured (atTime s tick) s1 (reqCells r) block → QuarterCaptured s1 s2 (reqCells r) (block + 16) →
        QuarterCaptured s2 s3 (reqCells r) (block + 32) → QuarterCaptured s3 s4 (reqCells r) (block + 48) →
        ∃ out, SentToMemory s4 (reqCells r) out
          ∧ (s4.cc.selected = s.cc.selected → exec (.settingWordWrite tick offset beats lanes) s = .next (serving s4 out))
          ∧ (s4.cc.selected ≠ s.cc.selected → exec (.settingWordWrite tick offset beats lanes) s =
              .next { s4 with port := { s4.port with
                phase := .refresh [out,
                  cellsFrom (controlBase s.straps + 0x140) (bytesOf (s4.cc.look s4.cc.selected).wall),
                  cellsFrom (controlBase s.straps + 0x144) (bytesOf (s4.cc.look s4.cc.selected).lights)]
                claim := true } }))
    ∧ (∀ (offset : BitVec 14) (beats : Byte) (lanes : List Lane),
      let r := writeRequest (controlBase s.straps + offset.toNat) beats lanes
      requestError r = none → reqCells r ≠ [] →
      (∀ c ∈ reqCells r, s.classOf c.1 = .control ∧ wordAt ((c.1 - controlBase s.straps) / 4 * 4) = none) →
      exec (.settingWordWrite tick offset beats lanes) s = .next (serving (atTime s tick) (reqCells r)))
    ∧ (∀ (en : BitVec 4) (v : Word), en ≠ 0 →
      let m := mergeWord s.cc.setting[8] (wordLanes en v)
      let s1 := takenWith (atTime s tick) (.setting 8) m m
      exec (.settingWordWrite tick 0x020 1 (wordLanes en v ++ List.replicate 12 none)) s =
        .next (serving s1 (wordCells s1 (.setting 8))))

/-- R41, R147: a write of the look edit selector taken in IDLE. The value 3 is refused: the old selector goes to memory and
SETTING_ADJUSTED is reported, cause 4. The value in use is taken as written. Another value is taken, and the port goes into
REFRESH with the newly selected look's two words to be written after the selector's own write, one claim each (log entry 21). -/
def Obligations.EditSelectorRefreshesTheBlock : Prop :=
  ∀ (tick : Nat) (en : BitVec 4) (v : Word) (s : State), ControlReady s → en ≠ 0 → field s.cc.command[5] 0 2 ≤ 2 →
    let m := mergeWord s.cc.command[5] (wordLanes en v)
    let s1 := refusedWith (atTime s tick) (.command 5) 4
    let s2 := { atTime s tick with cc := s.cc.setWord (.command 5) m }
    (field m 0 2 = 3 → exec (.lookEditSelector tick en v) s = .next (serving s1 (wordCells s1 (.command 5))))
    ∧ (field m 0 2 = field s.cc.command[5] 0 2 →
      exec (.lookEditSelector tick en v) s = .next (serving s2 (wordCells s2 (.command 5))))
    ∧ (∀ look : Look, field m 0 2 ≠ field s.cc.command[5] 0 2 → look.code = field m 0 2 →
      exec (.lookEditSelector tick en v) s =
        .next { s2 with port := { s2.port with
          phase := .refresh [wordCells s2 (.command 5),
            cellsFrom (controlBase s.straps + 0x140) (bytesOf (s.cc.look look).wall),
            cellsFrom (controlBase s.straps + 0x144) (bytesOf (s.cc.look look).lights)]
          claim := true } })

/-- R53, R76, R131, R139, R185, R186: words that only take a value. The report kind mask and the edge modes are taken as merged;
the order code, the phase offset, the holdover limit and the miss limit are brought into range, the word's other bits kept. The
shadow becomes the value, a value changed is reported CLAMPED, and nothing else changes. -/
def Obligations.PlainSettingsAreClamped : Prop :=
  ∀ (s : State) (m : Word),
    captureMerged s (.setting 8) m = takenWith s (.setting 8) m m
    ∧ captureMerged s (.setting 14) m = takenWith s (.setting 14) m m
    ∧ (∃ v, captureMerged s (.setting 5) m = takenWith s (.setting 5) m v ∧ SameOutside m v 0 3
        ∧ field v 0 3 = if 5 < field m 0 3 then 0 else field m 0 3)
    ∧ (∃ v, captureMerged s (.setting 12) m = takenWith s (.setting 12) m v ∧ SameOutside m v 0 23
        ∧ field v 0 23 = min (field m 0 23) (s.cc.period - 1))
    ∧ (∃ v, captureMerged s (.setting 13) m = takenWith s (.setting 13) m v ∧ SameOutside m v 0 9
        ∧ field v 0 9 = max 1 (min (field m 0 9) 255))
    ∧ (∃ v, captureMerged s (.setting 19) m = takenWith s (.setting 19) m v ∧ SameOutside m v 0 5
        ∧ field v 0 5 = max 1 (min (field m 0 5) 15))

/-- R140, R141: the repaired rank keeps each input the first time it appears and appends the absent ones in ascending number;
the repaired camera-to-look map brings a default look of 3 to 0 and gives that default to each input of 3. Both keep their
word's other bits, and a change is reported CLAMPED. -/
def Obligations.RankAndLookMapAreRepaired : Prop :=
  ∀ (s : State) (m : Word),
    (∃ v, captureMerged s (.setting 15) m = takenWith s (.setting 15) m v ∧ SameOutside m v 0 24
      ∧ rankCodes v = (rankCodes m).eraseDups ++ (List.range 8).filter fun x => x ∉ rankCodes m)
    ∧ (∃ v, captureMerged s (.setting 16) m = takenWith s (.setting 16) m v ∧ SameOutside m v 0 18
      ∧ field v 16 2 = (if field m 16 2 = 3 then 0 else field m 16 2)
      ∧ ∀ i : Fin 8, field v (2 * i.val) 2 = if field m (2 * i.val) 2 = 3 then field v 16 2 else field m (2 * i.val) 2)

/-- R186 to R188: W, H and the two bases. While the wall runs the word is refused, cause REFUSED_RUNNING, whatever its value. Else
it is adjusted; if the ranges it would give leave the 4 GiB space, or the bank region or the ring would overlap the control
window, or with the run enable set the ring would overlap the bank region, it is refused, cause REFUSED_PLACEMENT; else it is
taken. -/
def Obligations.CanvasWordsAreRunLocked : Prop :=
  (∀ (s : State) (i : Fin 20) (m : Word), 1 ≤ i.val → i.val ≤ 4 → ∃ v,
    (i.val = 1 → SameOutside m v 0 13 ∧ field v 0 13 = max 16 (min (field m 0 13 / 16 * 16) 7680))
    ∧ (i.val = 2 → SameOutside m v 0 12 ∧ field v 0 12 = max 1 (min (field m 0 12) 2160))
    ∧ (3 ≤ i.val → SameOutside m v 0 20 ∧ field v 0 20 = 0)
    ∧ captureMerged s (.setting i) m =
        if s.cc.running = true then refusedWith s (.setting i) 1
        else if placementBad s.straps (s.cc.setWord (.setting i) v) = true then refusedWith s (.setting i) 2
        else takenWith s (.setting i) m v)
    ∧ (∀ (straps : BitVec 2) (c : Shadow),
        (placementBad straps c = true ↔
          4294967296 < c.canvasBase + c.bankSize ∨ 4294967296 < c.regionBase + 4 * c.bankSize
          ∨ (c.ringCode ≠ 0 ∧ 4294967296 < c.ringBase + 16 * c.ringSize)
          ∨ (∃ a, inRange a c.regionBase (4 * c.bankSize) = true ∧ inRange a (controlBase straps) 0x4000 = true)
          ∨ (∃ a, inRange a c.ringBase (16 * c.ringSize) = true ∧ inRange a (controlBase straps) 0x4000 = true)
          ∨ (c.running = true
            ∧ ∃ a, inRange a c.ringBase (16 * c.ringSize) = true ∧ inRange a c.regionBase (4 * c.bankSize) = true)))

/-- R189: the word at 0x000. Setting the run enable while the wall is stopped starts the wall, unless two of the canvas window,
the bank region, the ring and the control window share an address: then it is written back as 0 and reported REFUSED_OVERLAP, the
other bits taken. Clearing it while the wall runs is the stop: the bank table and the send as at a wall reset. With its value in
use written, only the word changes. -/
def Obligations.RunEnableStartsAndStopsTheWall : Prop :=
  (∀ (straps : BitVec 2) (c : Shadow),
    let canvas := fun a => inRange a c.canvasBase c.bankSize = true
    let region := fun a => inRange a c.regionBase (4 * c.bankSize) = true
    let ring := fun a => inRange a c.ringBase (16 * c.ringSize) = true
    let control := fun a => inRange a (controlBase straps) 0x4000 = true
    (rangesOverlap straps c = true ↔ ∃ a, (canvas a ∧ region a) ∨ (canvas a ∧ ring a) ∨ (canvas a ∧ control a)
      ∨ (region a ∧ ring a) ∨ (region a ∧ control a) ∨ (ring a ∧ control a)))
    ∧ ∀ (s : State) (m : Word),
    let taken := { s with cc := s.cc.setWord (.setting 0) m }
    (m.getLsbD 0 = s.cc.running → captureMerged s (.setting 0) m = taken)
    ∧ (m.getLsbD 0 = false → s.cc.running = true → captureMerged s (.setting 0) m = resetWall taken)
    ∧ (m.getLsbD 0 = true → s.cc.running = false → rangesOverlap s.straps s.cc = false →
        captureMerged s (.setting 0) m = taken ∧ taken.cc.running = true)
    ∧ (m.getLsbD 0 = true → s.cc.running = false → rangesOverlap s.straps s.cc = true → ∃ v,
        SameOutside m v 0 1 ∧ v.getLsbD 0 = false
        ∧ captureMerged s (.setting 0) m =
            withReports { s with cc := s.cc.setWord (.setting 0) v } [⟨.settingAdjusted, 3, 0x000, v⟩])

/-- R186, R187, R192: the ring base and the ring size code. A value that would break the placement is refused and does not restart
the ring. Else it is taken, and the ring restarts: indices 0, queue empty, lost flag clear, no index write owed, a waiting
record or index claim withdrawn with the Report count at 0; a waiting status part stays. -/
def Obligations.RingWordsRestartTheRing : Prop :=
  ∀ (s : State) (i : Fin 20) (m : Word), i.val = 6 ∨ i.val = 7 → ∃ v,
    (i.val = 6 → SameOutside m v 0 4 ∧ field v 0 4 = 0)
    ∧ (i.val = 7 → SameOutside m v 0 4 ∧ field v 0 4 = min (field m 0 4) 9)
    ∧ (placementBad s.straps (s.cc.setWord (.setting i) v) = true →
        captureMerged s (.setting i) m = refusedWith s (.setting i) 2)
    ∧ (placementBad s.straps (s.cc.setWord (.setting i) v) = false →
        let t := captureMerged s (.setting i) m
        let s1 := takenWith s (.setting i) m v
        (∀ j, s.rw.claim = some (.part j) → t.rw.claim = s.rw.claim ∧ t.passed = s.passed)
        ∧ (s.rw.claim = some .index ∨ s.rw.claim = some .record → t.passed = { s.passed with report := 0 })
        ∧ (s.rw.claim = none → t.passed = s.passed)
        ∧ ((∀ j, s.rw.claim ≠ some (.part j)) → t.rw.claim = (firstOutstanding s).map RwClaim.part)
        ∧ t = { s1 with passed := t.passed, rw := { s1.rw with
                  alloc := 0, prod := 0, cons := 0, queue := [], lost := false, owed := none, claim := t.rw.claim } })

/-- R13 to R16: the commit. Refused with a report and no change of a bank while the wall is stopped (reason 0) or with no bank
FILLING (reason 1). Else the READY bank, if any, is reported FRAME_DROPPED and becomes RETIRING if the FILLING bank copies from
it, FREE otherwise; the FILLING bank takes the host frame number and becomes SEALING while its copy runs, else READY with its map
released, with FRAME_INCOMPLETE if segments are unwritten. -/
def Obligations.CommitClosesTheFill : Prop :=
  ∀ (s : State) (m : Word), BankLaw s →
    let n : BitVec 16 := m.extractLsb' 0 16
    let t := captureMerged s (.command 0) m
    let taken := { s with cc := s.cc.setWord (.command 0) m }
    (s.cc.running = false → t = withReports taken [⟨.commitRefused, 0, n.setWidth 32, 0⟩])
    ∧ (s.cc.running = true → bankIn s .filling = none → t = withReports taken [⟨.commitRefused, 0, n.setWidth 32, 1⟩])
    ∧ (∀ k, s.cc.running = true → bankIn s .filling = some k →
      (t.banks[k]).host = some n
      ∧ (t.banks[k]).state = (if (s.banks[k]).src.isSome = true then .sealing else .ready)
      ∧ t.banks[k] = { s.banks[k] with host := some n, state := (t.banks[k]).state }
      ∧ (∀ j, (s.banks[j]).state = .ready → (s.banks[k]).src = some j →
          t.banks[j] = { s.banks[j] with state := .retiring })
      ∧ (∀ j, (s.banks[j]).state = .ready → (s.banks[k]).src ≠ some j → t.banks[j] = (s.banks[j]).freed)
      ∧ (∀ j, j ≠ k → (s.banks[j]).state ≠ .ready → t.banks[j] = s.banks[j])
      ∧ ((s.banks[k]).src.isSome = true → t.map0 = s.map0 ∧ t.map1 = s.map1)
      ∧ ((s.banks[k]).src = none → ¬ lentTo t k)
      ∧ t.rw.reports = s.rw.reports
          ++ (match bankIn s .ready with
              | none => []
              | some j => [⟨.frameDropped, BitVec.ofNat 8 j.val, BitVec.ofNat 32 (hostNumber s.banks[j]), 0⟩])
          ++ (if (s.banks[k]).src = none ∧ (s.banks[k]).written < s.cc.segments then
                [⟨.frameIncomplete, BitVec.ofNat 8 k.val, n.setWidth 32, BitVec.ofNat 32 (s.banks[k]).written⟩]
              else [])
      ∧ t = { taken with banks := t.banks, map0 := t.map0, map1 := t.map1, rw := { s.rw with reports := t.rw.reports } })

/-- R22, R30, R31, R52, R117: the wall reset frees every bank with its record cleared and its latched geometry kept, releases
both maps, abandons the copy and the send, withdraws their claims with their counts at 0, empties the stages, and clears the
flags and the resend request. It makes no report; shifts, pending marks, tags, gains and counts stay, and so does all else: an
access on the channel that is not a copy or a segment read completes as it stands (R49, R55). -/
def Obligations.WallResetEmptiesTheWall : Prop :=
  ∀ (s : State) (m : Word),
    let t := captureMerged s (.command 1) m
    (∀ k : Fin 4, t.banks[k] = { s.banks[k] with
        state := .free, host := none, written := 0, src := none, progress := 0,
        acc := Vector.replicate 64 ⟨⟨0, 0, 0⟩, 0, false⟩ })
    ∧ (t.map0 = { s.map0 with lentTo := none } ∧ t.map1 = { s.map1 with lentTo := none })
    ∧ (t.copy = .idle ∧ t.so.send = none ∧ t.so.claim = false ∧ t.so.resend = false)
    ∧ (∀ l : Fin 24, t.so.links[l] = { s.so.links[l] with primed := false, starved := false }
        ∧ t.tx[l] = { s.tx[l] with stage := none })
    ∧ t.passed = { s.passed with copy := 0, scanOut := if s.so.claim = true then 0 else s.passed.scanOut }
    ∧ (∀ data d, s.channel = .copyRead data d → t.channel = .copyRead data true)
    ∧ (∀ l data d, s.channel = .segmentRead l data d → t.channel = .segmentRead l data true)
    ∧ ((∀ data d, s.channel ≠ .copyRead data d) → (∀ l data d, s.channel ≠ .segmentRead l data d) → t.channel = s.channel)
    ∧ t = { s with
        cc := s.cc.setWord (.command 1) m, banks := t.banks, map0 := t.map0, map1 := t.map1, copy := .idle,
        passed := t.passed, channel := t.channel, tx := t.tx,
        so := { s.so with send := none, claim := false, resend := false, links := t.so.links } }

/-- R88, R130, R138: the link clear, the reference acknowledge and the tally acknowledge. A link named by the merged value has its
flags, inhibit, miss count and buffer cleared and keeps its state, without a report; the fault latch is cleared whatever the
value; the pending and overrun flags of the inputs named are cleared. What is not named stays. -/
def Obligations.AcknowledgesClearWhatTheyName : Prop :=
  ∀ (s : State) (m : Word),
    ((∀ l : Fin 24, (captureMerged s (.command 2) m).lsv.links[l] =
          if m.getLsbD l.val = true then ⟨(s.lsv.links[l]).state, none, 0, false, false, false, false⟩ else s.lsv.links[l])
      ∧ captureMerged s (.command 2) m =
          { s with cc := s.cc.setWord (.command 2) m,
                   lsv := { s.lsv with links := (captureMerged s (.command 2) m).lsv.links } })
    ∧ captureMerged s (.command 3) m = { s with cc := s.cc.setWord (.command 3) m, ru := { s.ru with fault := false } }
    ∧ ((∀ i : Fin 8,
          (captureMerged s (.command 4) m).tu.pending.getLsbD i.val = (s.tu.pending.getLsbD i.val && !m.getLsbD i.val)
          ∧ (captureMerged s (.command 4) m).tu.overrun.getLsbD i.val = (s.tu.overrun.getLsbD i.val && !m.getLsbD i.val))
      ∧ captureMerged s (.command 4) m =
          { s with cc := s.cc.setWord (.command 4) m,
                   tu := { s.tu with pending := (captureMerged s (.command 4) m).tu.pending,
                                     overrun := (captureMerged s (.command 4) m).tu.overrun } })

/-- R190, R195: the ring consumer index. A value v below the ring size with (v − c) modulo the ring size at most (p − c) modulo
the ring size is taken and becomes the consumer index in use; while the ring is off only 0 is; any other is refused, cause
REFUSED_VALUE, and the old shadow stays. -/
def Obligations.ConsumerIndexStaysBehindTheProducer : Prop :=
  ∀ (s : State) (m : Word), RingLaw s →
    let v := field m 0 12
    let n := s.cc.ringSize
    let taken := { s with cc := s.cc.setWord (.command 6) m, rw := { s.rw with cons := v } }
    (n = 0 → v = 0 → captureMerged s (.command 6) m = taken)
    ∧ (n = 0 → v ≠ 0 → captureMerged s (.command 6) m = refusedWith s (.command 6) 4)
    ∧ (0 < n → v < n → ((v : Int) - s.rw.cons) % n ≤ ((s.rw.prod : Int) - s.rw.cons) % n →
        captureMerged s (.command 6) m = taken)
    ∧ (0 < n → n ≤ v ∨ ((s.rw.prod : Int) - s.rw.cons) % n < ((v : Int) - s.rw.cons) % n →
        captureMerged s (.command 6) m = refusedWith s (.command 6) 4)

/-- R146, R148: a write to the look parameter block changes the word of the look that the edit selector names, and no other
look. If that is the active look, a wall gain word gives the Scan-Out Engine a wall gain notice, and a lighting gains word gives the
Lighting Engine a lighting gains notice, behind the notices given before, each carrying the look's values after the write. -/
def Obligations.LookWordsChangeTheSelectedLook : Prop :=
  ∀ (s : State) (m : Word) (i : Fin 2),
    let t := captureMerged s (.look i) m
    let sel := s.cc.selected
    t.cc.look sel = (if i = 0 then { s.cc.look sel with wall := m } else { s.cc.look sel with lights := m })
    ∧ (∀ l : Look, l ≠ sel → t.cc.look l = s.cc.look l)
    ∧ t.so.gains = s.so.gains ++ (if i = 0 ∧ sel = s.tu.look then [BitVec.ofNat 8 (field m 0 8)] else [])
    ∧ t.le.gainNotices = s.le.gainNotices
        ++ (if i ≠ 0 ∧ sel = s.tu.look then [⟨.lights, ⟨field m 0 8, field m 8 8, field m 16 8⟩⟩] else [])
    ∧ t = { s with cc := s.cc.setWord (.look i) m, so := { s.so with gains := t.so.gains },
                   le := { s.le with gainNotices := t.le.gainNotices } }

/-! ### Writes of the reference, tile link, lamp link and table words -/

/-- R76, R85 to R87: the mode and acquire count word, the nominal period and the tolerance. Each is brought into range and taken.
A mode changed to INTERNAL enters INTERNAL, with one frame event scheduled one period after the last, but not in the past; a mode
changed to EXTERNAL enters ACQUIRE, keeping the schedule. In INTERNAL a changed period replaces the scheduled time; with no frame
event yet, for which the spec states no time, that time is free (log entry 12). In EXTERNAL a changed period or tolerance restarts
ACQUIRE, with a free-running time added unless one is scheduled or the unit is cold. A value left as it was has no further effect. -/
def Obligations.ReferenceSettingsReschedule : Prop :=
  ∀ (s : State) (m : Word), SettingsLaw s.cc → ReferenceLaw s →
    (∃ v, SameOutside m v 8 5 ∧ field v 8 5 = max 2 (min (field m 8 5) 15)
      ∧ (let s1 := takenWith s (.setting 9) m v
        (m.getLsbD 0 = s.cc.modeInternal → captureMerged s (.setting 9) m = s1)
        ∧ (m.getLsbD 0 = true → s.cc.modeInternal = false → ∃ t : Nat,
            (∀ f, s.ru.lastFrame = some f → t = max (f + s.cc.period) s.now)
            ∧ (s.ru.lastFrame = none → t = s.now + s.cc.period)
            ∧ captureMerged s (.setting 9) m = withReports
                { s1 with ru := { s.ru with
                    lock := .internal, lastPulse := none, good := 0, held := 0, coast := s.cc.period, watch := none,
                    schedule := [⟨t, true⟩] } }
                [refReport .internal s.ru.lock 4 s.ru.fault])
        ∧ (m.getLsbD 0 = false → s.cc.modeInternal = true →
            captureMerged s (.setting 9) m =
              withReports { s1 with ru := { s.ru with lock := .acquire } } [refReport .acquire .internal 4 s.ru.fault])))
    ∧ (∀ i : Fin 20, i.val = 10 ∨ i.val = 11 → ∃ v,
      (i.val = 10 → SameOutside m v 0 23
        ∧ field v 0 23 = max (max 400000 (s.cc.phaseOffset + 1)) (min (field m 0 23) 5000000))
      ∧ (i.val = 11 → SameOutside m v 0 17 ∧ field v 0 17 = max 1 (min (field m 0 17) 65535))
      ∧ (let s1 := takenWith s (.setting i) m v
        let unit := { s.ru with lock := Lock.acquire, good := 0, held := 0, watch := none }
        (s1.cc.period = s.cc.period → s1.cc.tolerance = s.cc.tolerance → captureMerged s (.setting i) m = s1)
        ∧ (i.val = 11 → s.cc.modeInternal = true → captureMerged s (.setting i) m = s1)
        ∧ (i.val = 10 → s.cc.modeInternal = true → s1.cc.period ≠ s.cc.period → ∃ t draws : Nat,
            s.now ≤ t ∧ (∀ f, s.ru.lastFrame = some f → t = max (f + s1.cc.period) s.now ∧ draws = s.draws)
            ∧ captureMerged s (.setting i) m =
                { s1 with ru := { s.ru with coast := s1.cc.period, schedule := [⟨t, true⟩] }, draws := draws })
        ∧ (s.cc.modeInternal = false → s1.cc.period ≠ s.cc.period ∨ s1.cc.tolerance ≠ s.cc.tolerance →
          ∃ schedule : List Sched,
            (freeRuns s.ru.schedule ≠ [] → schedule = s.ru.schedule)
            ∧ (∀ e, freeRuns s.ru.schedule = [] → s.ru.schedule.getLast? = some e →
                schedule = s.ru.schedule ++ [⟨e.time + s.ru.coast, true⟩])
            ∧ (∀ f, s.ru.schedule = [] → s.ru.lastFrame = some f → schedule = [⟨max (f + s.ru.coast) s.now, true⟩])
            ∧ (s.ru.schedule = [] → s.ru.lastFrame = none → schedule = [])
            ∧ captureMerged s (.setting i) m = withReports { s1 with ru := { unit with schedule := schedule } }
                [refReport .acquire s.ru.lock 5 s.ru.fault])))

/-- R94, R95, R115, R200: the words of a tile link entry. A header that leaves the link enable at its value in use, a trim word and
a tile record are adjusted, taken and reported if changed, and each raises the resend request; a spare word is taken as written.
A header's rate code is the receiver's from that tick on, and its earlier ones stay for the packets begun before (log entry
17). -/
def Obligations.TileWordsAreAdjustedAndAskForAResend : Prop :=
  ∀ (s : State) (l : Fin 24) (m : Word),
    let asked := fun t : State => { t with so := { t.so with resend := true } }
    (∃ v, HeaderAdjusted m v
      ∧ (let t := captureMerged s (.tile l 0) m
        (m.getLsbD 0 = s.cc.linkEnable l → t = { asked (takenWith s (.tile l 0) m v) with lsv := { s.lsv with rates := t.lsv.rates } })
        ∧ (∀ x, rateAt t l x = if s.now ≤ x then field v 1 2 else rateAt s l x)
        ∧ ∀ j : Fin 24, j ≠ l → t.lsv.rates[j] = s.lsv.rates[j]))
    ∧ captureMerged s (.tile l 1) m = asked (takenWith s (.tile l 1) m m)
    ∧ (∀ r : Fin 32, 2 ≤ r.val → r.val < 18 → ∃ v, RecordAdjusted s.cc l m v
        ∧ captureMerged s (.tile l r) m = asked (takenWith s (.tile l r) m v))
    ∧ (∀ r : Fin 32, 18 ≤ r.val → captureMerged s (.tile l r) m = takenWith s (.tile l r) m m)

/-- R113, R114, R128, R129, R132: a header that changes the link enable. Set, the link enters RECOVER with miss count 0 and a
recover notice, and its transmitter begins an IDLE packet if its shift is empty, which starves a link that still has an incomplete
part, is primed and has an empty stage. Cleared, the link enters OFF with its buffer emptied and a leave notice if it was ACTIVE,
and its transmitter loses its stage and its pending mark; a complete line that waits in the assembly buffer is not placed in the
stage so emptied: the model's reading, log entry 28. LINK_STATE is reported, the resend request is raised, and no other link
changes. (The receiver's rate codes: `Obligations.TileWordsAreAdjustedAndAskForAResend`.) -/
def Obligations.LinkEnableActsOnLinkAndTransmitter : Prop :=
  ∀ (s : State) (l : Fin 24) (m : Word), SupervisionLaw s → m.getLsbD 0 ≠ s.cc.linkEnable l →
    let t := captureMerged s (.tile l 0) m
    let r := s.lsv.links[l]
    (∃ v, HeaderAdjusted m v ∧ (let s1 := takenWith s (.tile l 0) m v
      t.cc = s1.cc
      ∧ (m.getLsbD 0 = true →
          t.rw.reports = s1.rw.reports ++ [linkReport l .off { r with state := .recover, miss := 0 } .enabled])
      ∧ (m.getLsbD 0 = false →
          t.rw.reports = s1.rw.reports ++ [linkReport l r.state { r with state := .off, buffer := none } .disabled])))
    ∧ (m.getLsbD 0 = true →
        t.lsv.links[l] = { r with state := .recover, miss := 0 }
        ∧ t.so.recovers = s.so.recovers ++ [l] ∧ t.so.leaves = s.so.leaves
        ∧ ((s.tx[l]).shift = none →
            t.tx[l] = { s.tx[l] with shift := some ⟨.idle, s.now + 8 * (field m 1 2 + 1)⟩ })
        ∧ ((s.tx[l]).shift ≠ none → t.tx[l] = s.tx[l])
        ∧ (let starves := (s.tx[l]).shift = none ∧ (s.tx[l]).stage = none ∧ (s.so.links[l]).primed = true
              ∧ (s.so.links[l]).starved = false ∧ ∃ p, partOf s l = some p ∧ p.complete = false
          t.so.links[l] = if starves
            then { s.so.links[l] with starved := true, starves := (s.so.links[l]).starves + 1 } else s.so.links[l]))
    ∧ (m.getLsbD 0 = false →
        t.lsv.links[l] = { r with state := .off, buffer := none }
        ∧ t.so.recovers = s.so.recovers ∧ t.so.leaves = s.so.leaves ++ (if r.state = .active then [l] else [])
        ∧ t.tx[l] = { s.tx[l] with stage := none, mark := none } ∧ t.so.links[l] = s.so.links[l])
    ∧ (∀ j : Fin 24, j ≠ l → t.lsv.links[j] = s.lsv.links[j] ∧ t.tx[j] = s.tx[j] ∧ t.so.links[j] = s.so.links[j])
    ∧ t = { s with
        cc := t.cc, tx := t.tx, lsv := { s.lsv with links := t.lsv.links, rates := t.lsv.rates }
        rw := { s.rw with reports := t.rw.reports }
        so := { s.so with resend := true, recovers := t.so.recovers, leaves := t.so.leaves, links := t.so.links } }

/-- R57, R58, R153, R154, R172, R179, R180: the lamp link setups, the zone entries and the fixture entries. A setup's slot count is
clamped; its enable set begins a fill unit in an empty shift, and cleared empties the stage. A zone's clip code above 16 becomes
OFF, and its column and row bounds are clamped to the canvas and put in order. A fixture's mode code 3 becomes OFF. The end of a
fixture entry's write gives the entry notice, and reports UNPLACED if the fixture does not fit its link. -/
def Obligations.LampZoneAndFixtureWordsAreAdjusted : Prop :=
  (∀ (s : State) (l : Fin 2) (m : Word), ∃ v, SameOutside m v 8 10 ∧ field v 8 10 = max 24 (min (field m 8 10) 512)
    ∧ (let s1 := takenWith s (lampWordOf l) m v
      let t := captureMerged s (lampWordOf l) m
      (m.getLsbD 0 = s.cc.lampEnable l → t = s1)
      ∧ (m.getLsbD 0 ≠ s.cc.lampEnable l →
          (m.getLsbD 0 = true → (s.lamps[l]).shift = .empty → t.lamps[l] = { s.lamps[l] with
              shift := .fill (s.now + 10 * 4 ^ (field m 20 2 + 1) * (field m 24 8 + 1)) })
          ∧ (m.getLsbD 0 = true → (s.lamps[l]).shift ≠ .empty → t.lamps[l] = s.lamps[l])
          ∧ (m.getLsbD 0 = false → t.lamps[l] = { s.lamps[l] with stage := none })
          ∧ (∀ j : Fin 2, j ≠ l → t.lamps[j] = s.lamps[j]) ∧ t = { s1 with lamps := t.lamps })))
    ∧ (∀ (s : State) (z : Fin 64) (i : Fin 4) (m : Word), ∃ v, captureMerged s (.zone z i) m = takenWith s (.zone z i) m v
      ∧ (i.val = 0 → SameOutside m v 8 5 ∧ field v 8 5 = min (field m 8 5) 16)
      ∧ (i.val = 1 ∨ i.val = 2 →
          let len := if i.val = 1 then 9 else 12
          let most := if i.val = 1 then s.cc.width / 16 - 1 else s.cc.height - 1
          let a := min (field m 0 len) most
          let b := min (field m 16 len) most
          field v 0 len = min a b ∧ field v 16 len = max a b
          ∧ ∀ j, (len ≤ j ∧ j < 16) ∨ 16 + len ≤ j → v.getLsbD j = m.getLsbD j)
      ∧ (i.val = 3 → v = m))
    ∧ (∀ (s : State) (f : Fin 128) (i : Fin 4) (m : Word), ∃ v,
      captureMerged s (.fixture f i) m = takenWith s (.fixture f i) m v
      ∧ (i.val = 0 → SameOutside m v 0 2 ∧ field v 0 2 = if field m 0 2 = 3 then 0 else field m 0 2)
      ∧ (i.val ≠ 0 → v = m))
    ∧ (∀ (s : State) (f : Fin 128),
      let fits := fixSlot s.cc.fixtures[f] + 6 ≤ s.cc.lampSlots (fixLink s.cc.fixtures[f])
      let s1 := withReports s (if fits then []
        else [⟨.settingAdjusted, 5, BitVec.ofNat 32 (0x800 + 16 * f.val + 4), (s.cc.fixtures[f])[1]⟩])
      entryWritten s f = { s1 with le := { s1.le with entries := s.le.entries ++ [f] } })

/-! ### The memory channel -/

/-- R50 to R52, R113: ARBITER_GRANT. Nothing is granted while the channel is busy or no claim waits (log entry 5). Else the
Scan-Out is granted while it is urgent, that is, while some link's starved flag is set, with none urgent the aged claimant first
in the order code's list, with none aged the waiting one first in it, Report last. The granted count becomes 0 and that of every
other waiting claimant rises by one up to 16. A granted access beyond the 4 GiB of DRAM stops the machine with the fault
outsideMemory: the model's reading of section 1.5, which R187 keeps from being reached (log entry 16). -/
def Obligations.ArbiterGrantsTheFirstClaimInOrder : Prop :=
  (claimOrder 0 = [.sp, .scanOut, .copy, .report] ∧ claimOrder 1 = [.sp, .copy, .scanOut, .report]
    ∧ claimOrder 2 = [.scanOut, .sp, .copy, .report] ∧ claimOrder 3 = [.scanOut, .copy, .sp, .report]
    ∧ claimOrder 4 = [.copy, .sp, .scanOut, .report] ∧ claimOrder 5 = [.copy, .scanOut, .sp, .report])
    ∧ (∀ s : State, urgent s = true ↔ ∃ l : Fin 24, (s.so.links[l]).starved = true)
    ∧ (∀ s : State, waiting s .sp = s.port.claim ∧ waiting s .scanOut = s.so.claim
      ∧ (waiting s .copy = true ↔ s.copy = .wantRead ∨ ∃ buffer, s.copy = .wantWrite buffer)
      ∧ (waiting s .report = true ↔ s.rw.claim ≠ none))
    ∧ ∀ (tick : Nat) (s : State),
      let s1 := { s with now := max s.now tick }
      (s.channel ≠ .free → exec (.arbiterGrant tick) s = .next s1)
      ∧ (s.channel = .free → (∀ c, waiting s c = false) → exec (.arbiterGrant tick) s = .next s1)
      ∧ (∀ c : Claimant, s.channel = .free → waiting s c = true →
          (urgent s = true → waiting s .scanOut = true → c = .scanOut) →
          (¬ (urgent s = true ∧ waiting s .scanOut = true) →
            (s.passed.get c = 16 ∨ ∀ d, waiting s d = true → s.passed.get d ≠ 16)
            ∧ ∀ d, waiting s d = true → (s.passed.get c = 16 → s.passed.get d = 16) →
                (claimOrder s.cc.orderCode).idxOf c ≤ (claimOrder s.cc.orderCode).idxOf d) →
          ∃ passed : Passed,
            (∀ d, passed.get d = if d = c then 0 else if waiting s d = true then min 16 (s.passed.get d + 1)
              else s.passed.get d)
            ∧ ((∀ a ∈ (accessOf s1 c).addrs, a < 4294967296) →
                exec (.arbiterGrant tick) s = .next (grant { s1 with passed := passed } c))
            ∧ (¬ (∀ a ∈ (accessOf s1 c).addrs, a < 4294967296) →
                exec (.arbiterGrant tick) s = .fault .outsideMemory))

/-- R34, R35, R40, R41, R45, R191, R198: an SP claim granted. A write is in memory at the grant and occupies the channel: a plain,
merged or last refresh write finishes its request with DONE; an earlier refresh write or sweep access claims the next; the last
sweep access ends STARTUP without a response. A read occupies the channel with the data memory holds, and the port waits for it: a
READ of two kinds of bytes reads its own bytes first. A port that returns to IDLE takes the oldest request that waits, in the same
step (log entry 8). The sweep writes 104 blocks in ascending offset: in each, the power-on value of every word (bits of no field
0: log entry 19) and the bytes of the power-on image of the status block, and nothing at an offset that holds neither (R198). -/
def Obligations.GrantedPortClaimsTakeEffect : Prop :=
  ∀ s : State,
    let put := fun (cells : List Host.Cell) (p : Port) =>
      { s with mem := Memory.writeAll s.mem cells, channel := .write (Memory.undo s.mem cells), port := p }
    let done := { s.port with phase := .idle, claim := false, responses := s.port.responses ++ [.done] }
    (∀ cells, s.port.phase = .writeAccess cells → grant s .sp = settlePort (put cells done))
    ∧ (∀ bank seg bytes, s.port.phase = .mergedWrite bank seg bytes →
        grant s .sp = settlePort (put (cellsFrom (s.cc.segmentAddr bank seg) bytes) done))
    ∧ (∀ cells, s.port.phase = .refresh [cells] → grant s .sp = settlePort (put cells done))
    ∧ (∀ cells c rest, s.port.phase = .refresh (cells :: c :: rest) →
        grant s .sp = put cells { s.port with phase := .refresh (c :: rest), claim := true })
    ∧ (∀ k levels, s.port.phase = .startup k levels → k + 1 < 104 →
        grant s .sp = put (sweepCells s.straps levels k) { s.port with phase := .startup (k + 1) levels, claim := true })
    ∧ (∀ k levels, s.port.phase = .startup k levels → 104 ≤ k + 1 →
        grant s .sp = settlePort (put (sweepCells s.straps levels k) { s.port with phase := .idle, claim := false }))
    ∧ (∀ (levels : BitVec 8), (powerOnImage levels).length = 256
        ∧ ∀ o < 256, (powerOnImage levels).getD o 0 = if o = 4 then 1 else if o = 20 then levels else 0)
    ∧ (∀ (straps : BitVec 2) (levels : BitVec 8) (k : Nat), k < 104 →
        let block := if k < 2 then 64 * k else if k < 4 then 0x100 + 64 * (k - 2) else if k < 8 then 0x200 + 64 * (k - 4)
          else if k < 24 then 0x400 + 64 * (k - 8) else if k < 56 then 0x800 + 64 * (k - 24) else 0x1000 + 64 * (k - 56)
        ((sweepCells straps levels k).map (·.1)).Pairwise (· < ·)
        ∧ ∀ a b, (a, b) ∈ sweepCells straps levels k ↔ ∃ o, block ≤ o ∧ o < block + 64 ∧ a = controlBase straps + o
            ∧ ((∃ w, wordAt (o / 4 * 4) = some w ∧ b = (Shadow.powerOn.word w).extractLsb' (8 * (o % 4)) 8)
              ∨ (0x200 ≤ o ∧ o < 0x300 ∧ b = (powerOnImage levels).getD (o - 0x200) 0)))
    ∧ (∀ picks got, s.port.phase = .readAccess picks got →
        let own := (picks.filter (·.first)).map (·.addr)
        let bank := (picks.filter fun p => !p.first).map (·.addr)
        grant s .sp = { s with
          channel := .spRead (Memory.readAll s.mem (if got = none ∧ own ≠ [] then own else bank)),
          port := { s.port with claim := false } })
    ∧ (∀ bank src seg lanes rewrite, s.port.phase = .preRead bank src seg lanes rewrite →
        grant s .sp = { s with
          channel := .preRead ((List.range 64).map fun i => Memory.read s.mem (s.cc.segmentAddr src seg + i)),
          port := { s.port with claim := false } })
    ∧ (∀ cells : List Host.Cell, Memory.wf s.mem = true → (cells.map (·.1)).Nodup →
        ∀ c ∈ cells, Memory.read (Memory.writeAll s.mem cells) c.1 = c.2)
    ∧ (s.port.phase ≠ .idle ∨ s.port.arrived = [] → settlePort s = s)
    ∧ (∀ r rest, s.port.phase = .idle → s.port.arrived = r :: rest →
        settlePort s = settlePort (takeRequest { s with port := { s.port with arrived := rest } } r))

/-- R33, R35, R40: READ_DATA_RETURN. A READ with bytes of both kinds makes its second access when its own bytes come back; when
the last access comes back, the request finishes with each byte as its access read it, in address order, and the next waiting
request is taken in the same step: the model's choice, log entry 8. With no SP read on the channel only the time moves: the
model's choice, log entry 5. -/
def Obligations.ReadsReturnTheirBytesInOrder : Prop :=
  ∀ (tick : Nat) (s : State) (picks : List Pick) (m1 m2 : Memory),
    let s1 := { s with now := max s.now tick, channel := .free }
    let own := (picks.filter (·.first)).map (·.addr)
    let bank := (picks.filter fun p => !p.first).map (·.addr)
    let finished := fun bytes : List Byte => settlePort { s1 with port := { s.port with
      phase := .idle, claim := false, responses := s.port.responses ++ [.data bytes] } }
    (own ≠ [] → bank ≠ [] → s.channel = .spRead (Memory.readAll m1 own) → s.port.phase = .readAccess picks none →
      exec (.readDataReturn tick) s = .next { s1 with port := { s.port with
        phase := .readAccess picks (some (Memory.readAll m1 own)), claim := true } })
    ∧ (own ≠ [] → bank ≠ [] → s.channel = .spRead (Memory.readAll m2 bank) →
        s.port.phase = .readAccess picks (some (Memory.readAll m1 own)) →
      exec (.readDataReturn tick) s = .next (finished (picks.map fun p =>
        if p.first = true then Memory.read m1 p.addr else Memory.read m2 p.addr)))
    ∧ (bank = [] → s.channel = .spRead (Memory.readAll m1 own) → s.port.phase = .readAccess picks none →
      exec (.readDataReturn tick) s = .next (finished (picks.map fun p => Memory.read m1 p.addr)))
    ∧ (own = [] → s.channel = .spRead (Memory.readAll m2 bank) → s.port.phase = .readAccess picks none →
      exec (.readDataReturn tick) s = .next (finished (picks.map fun p => Memory.read m2 p.addr)))
    ∧ ((∀ data, s.channel ≠ .spRead data) → exec (.readDataReturn tick) s = .next { s with now := max s.now tick })

/-- R18, R22, R45, R49, R65, R67: MEMORY_WRITE_COMPLETE frees the channel. COPY_READ_DATA_RETURN fills the copy buffer and claims
the copy write; the data of an abandoned copy is discarded. PRE_READ_DATA_RETURN merges the enabled bytes into the old content,
gives the Zone Accumulator the subtraction for a rewrite and the addition, and claims the merged segment. With no such access on
the channel nothing changes: the model's choice, log entry 5. -/
def Obligations.CompletionsFreeTheChannel : Prop :=
  ∀ s : State,
    (∀ undo, s.channel = .write undo → exec .memoryWriteComplete s = .next { s with channel := .free })
    ∧ ((∀ undo, s.channel ≠ .write undo) → exec .memoryWriteComplete s = .next s)
    ∧ (∀ data, s.channel = .copyRead data true → exec .copyReadDataReturn s = .next { s with channel := .free })
    ∧ (∀ data, s.channel = .copyRead data false → s.copy = .reading →
        exec .copyReadDataReturn s = .next { s with channel := .free, copy := .wantWrite data })
    ∧ ((∀ data d, s.channel ≠ .copyRead data d) → exec .copyReadDataReturn s = .next s)
    ∧ (∀ old bank src seg lanes rewrite, s.channel = .preRead old →
        s.port.phase = .preRead bank src seg lanes rewrite → old.length = 64 →
        ∃ (new : List Byte) (t : State), exec .preReadDataReturn s = .next t ∧ new.length = 64
          ∧ (∀ i < 64, new[i]? = some (((lanes[i]?).getD none).getD (old.getD i 0)))
          ∧ (∀ z : Fin 64, (t.banks[bank]).acc[z] =
              if segmentInZone s.cc.columns (s.banks[bank]).geom[z] seg = true then
                (if rewrite = true then ((s.banks[bank]).acc[z]).swap ((s.banks[bank]).geom[z]).clip old new
                  else ((s.banks[bank]).acc[z]).plus ((s.banks[bank]).geom[z]).clip new)
              else (s.banks[bank]).acc[z])
          ∧ t.banks[bank] = { s.banks[bank] with acc := (t.banks[bank]).acc }
          ∧ (∀ j : Fin 4, j ≠ bank → t.banks[j] = s.banks[j])
          ∧ t = { s with channel := .free, banks := t.banks,
                         port := { s.port with phase := .mergedWrite bank seg new, claim := true } })
    ∧ ((∀ old, s.channel ≠ .preRead old) → exec .preReadDataReturn s = .next s)

/-- R101, R107, R108, R117: the pixel law. Each component of a canvas pixel read for a link becomes floor(floor(p × (w + 1) / 256)
× (t + 17) / 32), with the wall gain latched at the send's start and the link's latched trim; every output component is at most
1023 and the spare bits are 0; at w 255 and t 15 a component is left as it is. SEGMENT_DATA_RETURN scales the segment's pixels so
into the link's line; the data of an abandoned read is discarded, and with no segment read on the channel nothing changes (log
entry 5). The latched gain changes at a send start, and at power-on reset, alone. -/
def Obligations.SegmentDataIsScaledIntoTheLine : Prop :=
  (∀ (w : Byte) (trim : RGB) (px : Word), trim.r ≤ 15 → trim.g ≤ 15 → trim.b ≤ 15 →
    let o := scalePixel w trim px
    field o 0 10 = field px 0 10 * (w.toNat + 1) / 256 * (trim.r + 17) / 32
    ∧ field o 10 10 = field px 10 10 * (w.toNat + 1) / 256 * (trim.g + 17) / 32
    ∧ field o 20 10 = field px 20 10 * (w.toNat + 1) / 256 * (trim.b + 17) / 32
    ∧ field o 30 2 = 0
    ∧ (w = 255 → trim = ⟨15, 15, 15⟩ →
        field o 0 10 = field px 0 10 ∧ field o 10 10 = field px 10 10 ∧ field o 20 10 = field px 20 10))
    ∧ (∀ (s : State) (l : Fin 24) (data : List Byte) (d : Send) (p : Part), data.length = 64 →
      s.channel = .segmentRead l data false → s.so.send = some d → d.parts[l] = some p →
      ∃ (t : State) (line : List Word), exec .segmentDataReturn s = .next t
        ∧ line = p.assembly ++ (List.range 16).map (fun i => scalePixel s.so.gain p.trim
            (wordOf (data.getD (4 * i) 0) (data.getD (4 * i + 1) 0) (data.getD (4 * i + 2) 0) (data.getD (4 * i + 3) 0)))
        ∧ t.so.claim = (s.so.claim || anyNeedsFetch t)
        ∧ (line.length < p.tw ∨ p.tiles.length ≤ p.tileAt ∨ (s.tx[l]).stage ≠ none →
            t = { s with channel := .free, so := { s.so with
              claim := t.so.claim, send := some { d with parts := put d.parts l (some { p with assembly := line }) } } })
        ∧ (p.tw ≤ line.length → p.tileAt < p.tiles.length → (s.tx[l]).stage = none →
            t = { s with
              channel := .free
              tx := put s.tx l { s.tx[l] with stage := some ⟨p.tile.idx, p.line, d.tag, line⟩ }
              so := { s.so with
                claim := t.so.claim
                links := put s.so.links l { s.so.links[l] with primed := true, starved := false }
                send := some { d with parts := put d.parts l (some (if p.line + 1 < p.th
                  then { p with line := p.line + 1, fetched := 0, assembly := [] }
                  else { p with tileAt := p.tileAt + 1, line := 0, fetched := 0, assembly := [] })) } } }))
    ∧ (∀ (s : State) (l : Fin 24) (data : List Byte), s.channel = .segmentRead l data true →
        exec .segmentDataReturn s = .next { s with channel := .free })
    ∧ (∀ s : State, (∀ l data d, s.channel ≠ .segmentRead l data d) → exec .segmentDataReturn s = .next s)
    ∧ (∀ (c : Instr) (s t : State), c ≠ .scanOutFrameEvent → (∀ straps levels, c ≠ .powerOnReset straps levels) →
        exec c s = .next t → t.so.gain = s.so.gain)
    ∧ (∀ (s t : State), exec .scanOutFrameEvent s = .next t → t.so.tag = s.so.tag → t.so.gain = s.so.gain)

/-- R96, R105, R106: what a granted Scan-Out claim reads. The included tiles of a link are its enabled records below the tile count
that lie on the canvas, in ascending index. The lowest starved link that needs a fetch is served, else the first that needs one
after the link served last. It reads its line's next segment from the send's bank, and is then the link served last; the claim
stays while a link needs a fetch, and with none needing one nothing is read and the claim ends: the model's choice, log entry 10.
A link needs a fetch while it takes part in the send, has a line left and has not yet read that line's Tw/16 segments. -/
def Obligations.FetchesFollowTheSend : Prop :=
  (∀ (c : Shadow) (l : Fin 24),
    (includedTiles c l).Pairwise (fun a b => a.idx < b.idx)
    ∧ ∀ t : TileRec, t ∈ includedTiles c l ↔ ∃ r : Fin 16,
        let v := (c.tiles[l])[r.val + 2]
        t = ⟨r.val, field v 0 13, field v 16 12⟩ ∧ r.val < field (c.tiles[l])[0] 3 5 ∧ v.getLsbD 31 = true
        ∧ field v 0 13 + field (c.tiles[l])[0] 8 10 ≤ c.width ∧ field v 16 12 + field (c.tiles[l])[0] 18 10 ≤ c.height)
    ∧ (∀ (s : State) (l : Fin 24),
        (linkNeedsFetch s l = true ↔ ∃ d p, s.so.send = some d ∧ d.parts[l] = some p
          ∧ p.tileAt < p.tiles.length ∧ p.fetched < p.tw / 16))
    ∧ (∀ s : State, anyNeedsFetch s = true ↔ ∃ l, linkNeedsFetch s l = true)
    ∧ (∀ (s : State) (d : Send) (p : Part) (l : Fin 24), s.so.send = some d → d.parts[l] = some p →
        linkNeedsFetch s l = true →
        (((s.so.links[l]).starved = true ∧
            ∀ j, linkNeedsFetch s j = true → (s.so.links[j]).starved = true → l.val ≤ j.val)
          ∨ ((∀ j, linkNeedsFetch s j = true → (s.so.links[j]).starved = false) ∧
            ∀ j, linkNeedsFetch s j = true → (l.val + 23 - s.so.served.val) % 24 ≤ (j.val + 23 - s.so.served.val) % 24)) →
        let seg := (p.tile.y0 + p.line) * (s.cc.width / 16) + p.tile.x0 / 16 + p.fetched
        let addrs := (List.range 64).map fun i => s.cc.regionBase + d.bank.val * s.cc.bankSize + 64 * seg + i
        let t := grant s .scanOut
        accessOf s .scanOut = .read addrs
        ∧ t.so.claim = anyNeedsFetch t
        ∧ t = { s with
            channel := .segmentRead l (Memory.readAll s.mem addrs) false
            so := { s.so with
              claim := t.so.claim, served := l
              send := some { d with parts := put d.parts l (some { p with fetched := p.fetched + 1 }) } } })
    ∧ (∀ s : State, (∀ l, linkNeedsFetch s l = false) →
        accessOf s .scanOut = .nothing ∧ grant s .scanOut = { s with so := { s.so with claim := false } })

/-- R5, R17, R18, R20, R21, R44, R66: the copy engine's grants. A read takes the source's segment. A write that finds its segment
marked is dropped; else it lands, and the segment is marked, counted and added to the sums. The progress then passes every marked
segment: at an unmarked one the next read is claimed; at N the copy completes, a SEALING target becomes READY with its map released,
and a RETIRING source becomes FREE. A canvas write held because of the seal is then taken again. (The model's
choices: a dropped write leaves the channel free, log entry 10; every marked segment is passed within the grant, log entry
18.) -/
def Obligations.CopyStepsFillTheGaps : Prop :=
  ∀ (s : State) (k j : Fin 4), MapLaw s → bankTarget s = some k → (s.banks[k]).src = some j →
    let n := s.cc.segments
    let seg := (s.banks[k]).progress
    let t := grant s .copy
    (s.copy = .wantRead → t = { s with
        channel := .copyRead ((List.range 64).map fun i => Memory.read s.mem (s.cc.segmentAddr j seg + i)) false
        copy := .reading })
    ∧ (∀ buffer, s.copy = .wantWrite buffer → j ≠ k → seg < n → (∀ q lanes, s.port.phase ≠ .sealStall q lanes) →
        (isMarked s k seg = true → t.mem = s.mem ∧ t.channel = s.channel
          ∧ (t.banks[k]).written = (s.banks[k]).written ∧ (t.banks[k]).acc = (s.banks[k]).acc)
        ∧ (isMarked s k seg = false →
            t.mem = Memory.writeAll s.mem (cellsFrom (s.cc.segmentAddr k seg) buffer)
            ∧ t.channel = .write (Memory.undo s.mem (cellsFrom (s.cc.segmentAddr k seg) buffer))
            ∧ (t.banks[k]).written = (s.banks[k]).written + 1
            ∧ (lentTo t k → isMarked t k seg = true)
            ∧ ∀ z : Fin 64, (t.banks[k]).acc[z] =
                if segmentInZone s.cc.columns (s.banks[k]).geom[z] seg = true
                then ((s.banks[k]).acc[z]).plus ((s.banks[k]).geom[z]).clip buffer else (s.banks[k]).acc[z])
        ∧ (∃ p, seg < p ∧ p ≤ n ∧ (∀ q, seg < q → q < p → isMarked s k q = true) ∧ (t.banks[k]).progress = p
            ∧ (p < n → isMarked s k p = false ∧ t.copy = .wantRead ∧ (t.banks[k]).src = some j
                ∧ (t.banks[k]).state = (s.banks[k]).state ∧ t.banks[j] = s.banks[j] ∧ t.passed = s.passed)
            ∧ (p = n → t.copy = .idle ∧ (t.banks[k]).src = none ∧ t.passed = { s.passed with copy := 0 }
                ∧ (t.banks[k]).state = (if (s.banks[k]).state = .sealing then .ready else (s.banks[k]).state)
                ∧ ((s.banks[k]).state = .sealing → ¬ lentTo t k)
                ∧ t.banks[j] = (if (s.banks[j]).state = .retiring then (s.banks[j]).freed else s.banks[j])))
        ∧ (∀ i, i ≠ k → i ≠ j → t.banks[i] = s.banks[i])
        ∧ t.banks[k] = { s.banks[k] with
            state := (t.banks[k]).state, written := (t.banks[k]).written, src := (t.banks[k]).src,
            progress := (t.banks[k]).progress, acc := (t.banks[k]).acc }
        ∧ t = { s with mem := t.mem, channel := t.channel, banks := t.banks, map0 := t.map0, map1 := t.map1,
                       copy := t.copy, passed := t.passed })
    ∧ (∀ buffer q lanes, s.copy = .wantWrite buffer → s.port.phase = .sealStall q lanes →
        let u := { grant { s with port := { s.port with phase := .idle } } .copy with port := s.port }
        (bankIn u .sealing = none → t = takeCanvasWrite u q lanes) ∧ (bankIn u .sealing ≠ none → t = u))

/-! ### Reports and the status block -/

/-- R193, R194, R197: REPORT_TAKEN, and the Report claims. A report of a disabled kind, or with the ring off, is discarded; with
the ring full or 64 records queued it is dropped and the lost flag set; else its record is queued in the next slot with the lost
flag and the frame event count as they stand. A granted index write advances the producer index, a granted part is no longer
outstanding, and a granted record owes its index write; the next claim is the owed index write, else the lowest outstanding part,
else the oldest record. A granted part carries its 64 bytes of the image, the first with the producer index as it stands at the
grant. The attention line is asserted while its enable is set and the producer and consumer indices differ (R196). With no report
of the maker nothing changes (log entry 5). -/
def Obligations.ReportsBecomeRecordsInOrder : Prop :=
  (∀ (s : State) (m : Maker) (pre post : List Report) (r : Report), s.rw.reports = pre ++ r :: post → r.kind.maker = m →
    (∀ x ∈ pre, x.kind.maker ≠ m) →
    let s1 := { s with rw := { s.rw with reports := pre ++ post } }
    let n := s.cc.ringSize
    let full := (s.rw.alloc + 1) % n = s.rw.cons ∨ 64 ≤ s.rw.queue.length
    (s.cc.setting[8].getLsbD (r.kind.code - 1) = false ∨ s.cc.ringCode = 0 → exec (.reportTaken m) s = .next s1)
    ∧ (s.cc.setting[8].getLsbD (r.kind.code - 1) = true → s.cc.ringCode ≠ 0 → full →
        exec (.reportTaken m) s = .next { s1 with rw := { s1.rw with lost := true } })
    ∧ (s.cc.setting[8].getLsbD (r.kind.code - 1) = true → s.cc.ringCode ≠ 0 → ¬ full →
        let record : Record := ⟨s.rw.alloc, BitVec.ofNat 32 (r.kind.code + 128 * bit s.rw.lost + 256 * r.subject.toNat),
          s.ru.count, r.w2, r.w3⟩
        let s2 := { s1 with rw := { s1.rw with
          queue := s.rw.queue ++ [record], lost := false, alloc := (s.rw.alloc + 1) % n } }
        exec (.reportTaken m) s =
          .next { s2 with rw := { s2.rw with claim := if s.rw.claim = none then nextRwClaim s2 else s.rw.claim } }))
    ∧ (∀ (s : State) (m : Maker), (∀ x ∈ s.rw.reports, x.kind.maker ≠ m) → exec (.reportTaken m) s = .next s)
    ∧ (∀ s : State,
      let put := fun (cells : List Host.Cell) (w : ReportWriter) =>
        { s with mem := Memory.writeAll s.mem cells, channel := .write (Memory.undo s.mem cells), rw := w }
      let raised := fun t : State => { t with rw := { t.rw with claim := nextRwClaim t } }
      (∀ v, s.rw.claim = some .index → s.rw.owed = some v →
        grant s .report = raised (put (cellsFrom (controlBase s.straps + 0x21C) (bytesOf (BitVec.ofNat 32 v)))
          { s.rw with prod := v, owed := none }))
      ∧ (∀ i, s.rw.claim = some (.part i) → ∃ cells, accessOf s .report = .write cells
          ∧ cells = (List.range 64).map (fun o => (controlBase s.straps + 0x200 + 64 * i.val + o,
              if i = 0 ∧ 0x1C ≤ o ∧ o < 0x20 then (BitVec.ofNat 32 s.rw.prod).extractLsb' (8 * (o - 0x1C)) 8
              else s.rw.image.getD (64 * i.val + o) 0))
          ∧ grant s .report = raised (put cells { s.rw with outstanding := s.rw.outstanding.set i.val false }))
      ∧ (∀ r rest, s.rw.claim = some .record → s.rw.queue = r :: rest →
        grant s .report = raised (put
          (cellsFrom (s.cc.ringBase + 16 * r.slot) (bytesOf r.w0 ++ bytesOf r.w1 ++ bytesOf r.w2 ++ bytesOf r.w3))
          { s.rw with queue := rest, owed := some ((r.slot + 1) % s.cc.ringSize) })))
    ∧ (∀ s : State,
      (s.rw.owed ≠ none → nextRwClaim s = some .index)
      ∧ (∀ i : Fin 4, s.rw.owed = none → s.rw.outstanding[i] = true → (∀ j : Fin 4, j < i → s.rw.outstanding[j] = false) →
          nextRwClaim s = some (.part i))
      ∧ (s.rw.owed = none → (∀ i : Fin 4, s.rw.outstanding[i] = false) → s.rw.queue ≠ [] → nextRwClaim s = some .record)
      ∧ (s.rw.owed = none → (∀ i : Fin 4, s.rw.outstanding[i] = false) → s.rw.queue = [] → nextRwClaim s = none)
      ∧ (s.attention = true ↔ s.cc.setting[0].getLsbD 2 = true ∧ s.rw.prod ≠ s.rw.cons))

/-- R39, R197, R198: STATUS_BLOCK_REWRITE takes a snapshot at each frame event notice and marks the four parts outstanding, and
DISCARD_FLAG_CLEAR clears the "discard reported" flag; with no notice given neither changes anything (log entry 5). The image has
256 bytes and shows every field of R198 at the place the table of section 10.8.4 gives it: the frame event count; lock state, fault
latch, active camera and look, send in progress, last shown tag; bank states and host frame numbers, 0 where absent; tally levels
and flags; discard count; producer index; replace counts; unplaced and clipped flags; each link's state, miss count, error flags
and inhibit, and its late and starve counts; 0 in the last 44 bytes. -/
def Obligations.FrameNoticesRefreshTheStatusBlock : Prop :=
  (∀ (s : State) (n : FrameNotice) (rest : List FrameNotice),
    (s.rw.frames = n :: rest →
      let s1 := { s with rw := { s.rw with frames := rest, image := statusImage s, outstanding := Vector.replicate 4 true } }
      exec .statusBlockRewrite s =
        .next { s1 with rw := { s1.rw with claim := if s.rw.claim = none then nextRwClaim s1 else s.rw.claim } })
    ∧ (s.rw.frames = [] → exec .statusBlockRewrite s = .next s)
    ∧ (s.wd.frames = n :: rest →
        exec .discardFlagClear s = .next { s with wd := { s.wd with frames := rest, reported := false } })
    ∧ (s.wd.frames = [] → exec .discardFlagClear s = .next s))
    ∧ ∀ s : State,
      let at32 := fun o : Nat => wordOf ((statusImage s).getD o 0) ((statusImage s).getD (o + 1) 0)
        ((statusImage s).getD (o + 2) 0) ((statusImage s).getD (o + 3) 0)
      (statusImage s).length = 256
      ∧ at32 0x00 = s.ru.count ∧ at32 0x18 = s.wd.discards
      ∧ field (at32 0x04) 0 3 = s.ru.lock.code ∧ (at32 0x04).getLsbD 3 = s.ru.fault
      ∧ field (at32 0x04) 4 4 = (match s.tu.camera with | none => 0 | some i => i.val + 1)
      ∧ field (at32 0x04) 8 2 = s.tu.look.code
      ∧ field (at32 0x04) 12 2 = (match s.so.send with | none => 0 | some d => if d.kind = .first then 1 else 2)
      ∧ field (at32 0x04) 16 8 = s.so.lastShown.toNat
      ∧ (∀ k : Fin 4, field (at32 0x08) (8 * k.val) 3 = (s.banks[k]).state.code
          ∧ (at32 0x08).getLsbD (8 * k.val + 7) = (s.banks[k]).host.isSome
          ∧ field (at32 (0x0C + 4 * (k.val / 2))) (16 * (k.val % 2)) 16
              = (match (s.banks[k]).host with | none => 0 | some n => n.toNat))
      ∧ (s.rw.prod < 4096 → field (at32 0x1C) 0 12 = s.rw.prod)
      ∧ (∀ l : Fin 2, field (at32 0x20) (16 * l.val) 16 = (s.lamps[l]).replaced.toNat)
      ∧ (∀ i : Fin 128,
          ((at32 (0x24 + 4 * (i.val / 32))).getLsbD (i.val % 32) = true
            ↔ s.cc.lampSlots (fixLink s.cc.fixtures[i]) < fixSlot s.cc.fixtures[i] + 6)
          ∧ (at32 (0x34 + 4 * (i.val / 32))).getLsbD (i.val % 32) = (s.le.fixtures[i]).clipped)
      ∧ (∀ l : Fin 24, field (at32 (0x74 + 4 * l.val)) 0 16 = (s.so.links[l]).late.toNat
          ∧ field (at32 (0x74 + 4 * l.val)) 16 16 = (s.so.links[l]).starves.toNat)
      ∧ (∀ o, 0xD4 ≤ o → o < 0x100 → (statusImage s)[o]? = some 0)
      ∧ field (at32 0x14) 0 8 = s.tu.levels.toNat ∧ field (at32 0x14) 8 8 = s.tu.pending.toNat
      ∧ field (at32 0x14) 16 8 = s.tu.overrun.toNat
      ∧ (∀ l : Fin 24, SupervisionLaw s →
          let w := at32 (0x44 + 4 * (l.val / 2))
          let r := s.lsv.links[l]
          field w (16 * (l.val % 2)) 2 = r.state.code ∧ field w (16 * (l.val % 2) + 4) 4 = r.miss
          ∧ w.getLsbD (16 * (l.val % 2) + 8) = r.checkError ∧ w.getLsbD (16 * (l.val % 2) + 9) = r.framingError
          ∧ w.getLsbD (16 * (l.val % 2) + 10) = r.overrun ∧ w.getLsbD (16 * (l.val % 2) + 11) = r.inhibit)

/-! ### The Reference Unit -/

/-- R77, R78, R81, R82: REFERENCE_PULSE. In INTERNAL mode it is ignored; the first pulse only starts the measurement. A good
interval in LOCKED schedules a frame event and becomes the coast period; outside LOCKED it raises the good count, and at the
acquire count the unit locks, dropping the free-running time. A bad interval outside LOCKED clears the good count. (A bad interval
in LOCKED: `Obligations.LosingTheReferenceEntersHoldover`.) -/
def Obligations.PulsesMeasureAndLock : Prop :=
  ∀ (tick : Nat) (s : State),
    let now := max s.now tick
    let measured := { s.ru with lastPulse := some now }
    (s.cc.modeInternal = true → exec (.referencePulse tick) s = .next { s with now := now })
    ∧ (s.cc.modeInternal = false → s.ru.lastPulse = none →
        exec (.referencePulse tick) s = .next { s with now := now, ru := measured })
    ∧ (∀ t0, s.cc.modeInternal = false → s.ru.lastPulse = some t0 → t0 ≤ now →
      let d := now - t0
      let good := s.cc.period ≤ d + s.cc.tolerance ∧ d ≤ s.cc.period + s.cc.tolerance
      (¬ good → s.ru.lock ≠ .locked →
        exec (.referencePulse tick) s = .next { s with now := now, ru := { measured with good := 0 } })
      ∧ (good → s.ru.lock ≠ .locked → s.ru.good + 1 < s.cc.acquireCount →
        exec (.referencePulse tick) s = .next { s with now := now, ru := { measured with good := s.ru.good + 1 } })
      ∧ (good → s.ru.lock = .locked → ∃ schedule : List Sched,
          schedule.Perm (⟨now + s.cc.phaseOffset, false⟩ :: s.ru.schedule)
          ∧ exec (.referencePulse tick) s = .next { s with now := now, ru := { measured with
              coast := d, watch := some (now + s.cc.period + s.cc.tolerance), schedule := schedule } })
      ∧ (good → s.ru.lock ≠ .locked → s.cc.acquireCount ≤ s.ru.good + 1 → ∃ schedule : List Sched,
          schedule.Perm (⟨now + s.cc.phaseOffset, false⟩ :: s.ru.schedule.filter fun e => !e.freeRun)
          ∧ exec (.referencePulse tick) s = .next (withReports
              { s with now := now, ru := { measured with
                  lock := .locked, good := 0, held := 0, coast := d,
                  watch := some (now + s.cc.period + s.cc.tolerance), schedule := schedule } }
              [refReport .locked s.ru.lock 0 s.ru.fault])))

/-- R82, R83, R88: a LOCKED unit enters HOLDOVER at a bad interval (cause 1) and at the expiry of the pulse watch (cause 2): the
fault latch is set, the counts are 0, the watch stops, and one free-running time is added, a coast period after the latest
scheduled time or, with none, after the last frame event. With neither, which no run reaches, that time is free (log entry 12). A
stopped watch does not expire (log entry 5). -/
def Obligations.LosingTheReferenceEntersHoldover : Prop :=
  ∀ (s : State), ReferenceLaw s → s.ru.lock = .locked →
    let lost := fun (now : Nat) (cause : Nat) (lastPulse : Option Nat) (draws : Nat) (schedule : List Sched) => withReports
      { s with now := now, draws := draws, ru := { s.ru with
          lock := .holdover, good := 0, held := 0, watch := none, fault := true, lastPulse := lastPulse, schedule := schedule } }
      [refReport .holdover .locked cause true]
    let placed := fun (now x draws : Nat) (schedule : List Sched) =>
      schedule.Perm (⟨x, true⟩ :: s.ru.schedule)
      ∧ (∀ e, s.ru.schedule.getLast? = some e → x = e.time + s.ru.coast ∧ draws = s.draws)
      ∧ (∀ f, s.ru.schedule = [] → s.ru.lastFrame = some f → x = f + s.ru.coast ∧ draws = s.draws)
      ∧ (s.ru.schedule = [] → s.ru.lastFrame = none → now ≤ x)
    (∀ w, s.ru.watch = some w → ∃ (x draws : Nat) (schedule : List Sched),
        placed (max s.now w) x draws schedule
        ∧ exec .pulseMissing s = .next (lost (max s.now w) 2 s.ru.lastPulse draws schedule))
    ∧ (∀ tick t0, s.ru.lastPulse = some t0 → t0 ≤ max s.now tick →
        (max s.now tick - t0 + s.cc.tolerance < s.cc.period ∨ s.cc.period + s.cc.tolerance < max s.now tick - t0) →
        ∃ (x draws : Nat) (schedule : List Sched),
          placed (max s.now tick) x draws schedule
          ∧ exec (.referencePulse tick) s = .next (lost (max s.now tick) 1 (some (max s.now tick)) draws schedule))
    ∧ (∀ u : State, u.ru.watch = none → exec .pulseMissing u = .next u)

/-- R79, R80, R83, R90, R193: FRAME_EVENT. The earliest scheduled time is reached and removed. Less than floor(Pn / 4) after the
last frame event it is dropped; else the counter rises, the free run adds its successor, the holdover count rises in HOLDOVER and
LOST is entered at the limit, and six blocks are given the notice. With nothing scheduled nothing happens (log entry 5). (The
reports handed over before are taken first, in order, each as REPORT_TAKEN takes it: the model's choice, log entry 7. A time
already past is reached now: log entry 14.) -/
def Obligations.FrameEventsAreProducedOrDropped : Prop :=
  (∀ s : State, s.ru.schedule = [] → exec .frameEvent s = .next s)
    ∧ (∀ s : State, (takeAllReports s).rw.reports = [] ∧ takeAllReports s = { s with rw := (takeAllReports s).rw })
    ∧ (∀ s : State, s.rw.reports = [] → takeAllReports s = s)
    ∧ (∀ (s : State) (r : Report) (rest : List Report), s.rw.reports = r :: rest →
        ∃ u, exec (.reportTaken r.kind.maker) s = .next u ∧ u.rw.reports = rest ∧ takeAllReports s = takeAllReports u)
    ∧ ∀ (s : State) (e : Sched) (rest : List Sched), s.ru.schedule = e :: rest →
      let now := max s.now e.time
      let s1 := { takeAllReports s with now := now }
      let early := ∃ f, s.ru.lastFrame = some f ∧ now < f + s.cc.period / 4
      (early → ∃ schedule : List Sched,
          schedule.Perm (if e.freeRun = true then ⟨e.time + s.ru.coast, true⟩ :: rest else rest)
          ∧ exec .frameEvent s = .next { s1 with ru := { s.ru with schedule := schedule } })
      ∧ (¬ early → ∃ schedule : List Sched,
          let limit := s.ru.lock = .holdover ∧ s.cc.holdoverLimit ≤ s.ru.held + 1
          let n : FrameNotice := ⟨s.ru.count + 1, if limit then .lost else s.ru.lock⟩
          schedule.Perm (if e.freeRun = true then ⟨now + s.ru.coast, true⟩ :: rest else rest)
          ∧ exec .frameEvent s = .next { s1 with
              ru := { s.ru with
                lock := n.lock, held := if s.ru.lock = .holdover then s.ru.held + 1 else s.ru.held,
                schedule := schedule, lastFrame := some now, count := n.count }
              so := { s.so with frames := s.so.frames ++ [n] }
              lsv := { s.lsv with frames := s.lsv.frames ++ [n] }
              tu := { s.tu with frames := s.tu.frames ++ [n] }
              le := { s.le with frames := s.le.frames ++ [n] }
              wd := { s.wd with frames := s.wd.frames ++ [n] }
              rw := { s1.rw with
                frames := s.rw.frames ++ [n]
                reports := if limit then [refReport .lost .holdover 3 s.ru.fault] else [] } })

/-! ### Sends and tile links -/

/-- R26, R90, R98, R99, R111: SCAN_OUT_FRAME_EVENT. Nothing while the wall is stopped. While LOST every enabled link is given HOLD
with the last shown tag, and no more happens. Else a send in progress meets the show gate: with a part incomplete the mark is HOLD
and the late counts rise; with every part complete the mark is SHOW with the send's tag, the bank is shown and the send ends. With
no send in progress the mark is HOLD. After the marks, with no send in progress, a send start is attempted. A show request answers
the number of the bank it shows, or none and then changes nothing (R26). With no frame event notice given nothing changes (log
entry 5). -/
def Obligations.MarksFollowTheShowGate : Prop :=
  (∀ s : State, s.so.frames = [] → exec .scanOutFrameEvent s = .next s)
    ∧ (∀ (s : State) (j : Fin 4), isCopySource s j = true ↔
        ∃ k : Fin 4, (s.banks[k]).state.fills = true ∧ (s.banks[k]).src = some j)
    ∧ (∀ s : State, BankLaw s →
      (∀ k : Fin 4, (s.banks[k]).state.sends = true → (showSent s).2 = some k)
      ∧ ((∀ k : Fin 4, (s.banks[k]).state.sends = false) → showSent s = (s, none)))
    ∧ ∀ (s : State) (n : FrameNotice) (rest : List FrameNotice), BankLaw s → s.so.frames = n :: rest →
      let s1 := { s with so := { s.so with frames := rest } }
      let hold : Mark := ⟨false, s.so.lastShown⟩
      (s.cc.running = false → exec .scanOutFrameEvent s = .next s1)
      ∧ (s.cc.running = true → n.lock = .lost →
          ∃ t, exec .scanOutFrameEvent s = .next t ∧ MarksGiven s1 t n.count hold)
      ∧ (s.cc.running = true → n.lock ≠ .lost → s.so.send = none →
          ∃ t, exec .scanOutFrameEvent s = .next (attemptSend t n.count) ∧ MarksGiven s1 t n.count hold)
      ∧ (∀ d, s.cc.running = true → n.lock ≠ .lost → s.so.send = some d →
          (∃ (l : Fin 24) (p : Part), d.parts[l] = some p ∧ p.complete = false) →
          ∃ u t, exec .scanOutFrameEvent s = .next t ∧ MarksGiven u t n.count hold
            ∧ (∀ (l : Fin 24) (p : Part), d.parts[l] = some p → p.complete = false →
                u.so.links[l] = { s.so.links[l] with late := (s.so.links[l]).late + 1 })
            ∧ (∀ l : Fin 24, (∀ p, d.parts[l] = some p → p.complete = true) → u.so.links[l] = s.so.links[l])
            ∧ u = { s1 with so := { s1.so with links := u.so.links } })
      ∧ (∀ d, s.cc.running = true → n.lock ≠ .lost → s.so.send = some d →
          (∀ (l : Fin 24) (p : Part), d.parts[l] = some p → p.complete = true) →
          ∃ u t, exec .scanOutFrameEvent s = .next (attemptSend t n.count) ∧ MarksGiven u t n.count ⟨true, d.tag⟩
            ∧ (∀ l : Fin 24, u.so.links[l] = { s.so.links[l] with starved := false })
            ∧ (∀ k : Fin 4, (s.banks[k]).state.sends = true → u.banks[k] = { s.banks[k] with state := .shown })
            ∧ (∀ k j : Fin 4, (s.banks[k]).state = .sending → (s.banks[j]).state = .shown →
                u.banks[j] = if isCopySource s j = true then { s.banks[j] with state := .retiring } else (s.banks[j]).freed)
            ∧ (∀ j : Fin 4, (s.banks[j]).state.sends = false →
                (s.banks[j]).state ≠ .shown ∨ (∀ k : Fin 4, (s.banks[k]).state ≠ .sending) → u.banks[j] = s.banks[j])
            ∧ u = { s1 with
                banks := u.banks
                so := { s1.so with send := none, lastShown := d.tag, links := u.so.links }
                le := { s.le with shows := if d.kind = .first then s.le.shows + 1 else s.le.shows } })

/-- R24, R25, R96, R101, R126: a send start attempt. A READY bank starts a FIRST send and becomes SENDING; with none, a standing
resend request and a SHOWN bank start an AGAIN send, the bank RESENDING; else nothing starts. A start raises the tag, clears the
request, latches gain and tile maps, takes the ACTIVE and RECOVER links, and joins the RECOVER ones, a join noted with its event's
count while that event's check is still to come (log entry 29). -/
def Obligations.SendsStartFromTheReadyOrShownBank : Prop :=
  ∀ (s : State) (count : Word),
    (∀ k, bankIn s .ready = some k → SendStarted s (attemptSend s count) count .first k .sending)
    ∧ (∀ k, bankIn s .ready = none → s.so.resend = true → bankIn s .shown = some k →
        SendStarted s (attemptSend s count) count .again k .resending)
    ∧ (bankIn s .ready = none → s.so.resend = false ∨ bankIn s .shown = none → attemptSend s count = s)

/-- R103, R106, R115, R117: LEAVE_NOTICE takes a participating link out of the send: its part goes, its stage is emptied, its
flags are cleared, its read on the channel will be discarded, and a claim that no link needs is withdrawn with its count at 0; a
link that takes no part changes nothing. RECOVER_NOTICE raises the resend request, and WALL_GAIN_NOTICE does if its gain differs
from the latched one. Each takes the oldest notice of its kind; with none nothing changes (log entries 5 and 6). -/
def Obligations.NoticesReachTheScanOutEngine : Prop :=
  ∀ s : State,
    (s.so.leaves = [] → exec .leaveNotice s = .next s)
    ∧ (s.so.recovers = [] → exec .recoverNotice s = .next s)
    ∧ (s.so.gains = [] → exec .wallGainNotice s = .next s)
    ∧ (∀ l rest, s.so.recovers = l :: rest →
        exec .recoverNotice s = .next { s with so := { s.so with recovers := rest, resend := true } })
    ∧ (∀ g rest, s.so.gains = g :: rest → exec .wallGainNotice s =
        .next { s with so := { s.so with gains := rest, resend := s.so.resend || decide (g ≠ s.so.gain) } })
    ∧ (∀ l rest, s.so.leaves = l :: rest → partOf s l = none →
        exec .leaveNotice s = .next { s with so := { s.so with leaves := rest } })
    ∧ (∀ l rest d p, s.so.leaves = l :: rest → s.so.send = some d → d.parts[l] = some p → ∃ t,
        exec .leaveNotice s = .next t
        ∧ t.so.claim = (s.so.claim && anyNeedsFetch t)
        ∧ t.passed = (if s.so.claim = true ∧ anyNeedsFetch t = false then { s.passed with scanOut := 0 } else s.passed)
        ∧ (∀ data x, s.channel = .segmentRead l data x → t.channel = .segmentRead l data true)
        ∧ ((∀ data x, s.channel ≠ .segmentRead l data x) → t.channel = s.channel)
        ∧ t = { s with
            channel := t.channel, passed := t.passed
            tx := put s.tx l { s.tx[l] with stage := none }
            so := { s.so with
              leaves := rest, claim := t.so.claim, send := some { d with parts := put d.parts l none }
              links := put s.so.links l { s.so.links[l] with primed := false, starved := false } } })

/-- R105, R107, R109, R110, R112, R113: PACKET_FINISH. A finished LINE that is the last of its link's part, the last line of the
last included tile, completes the part. A disabled link's shift stays empty. On an enabled link the pending mark goes next, else
the staged LINE, with a complete line waiting in the assembly buffer placed in the stage, else an IDLE packet, which starves a
link whose incomplete part has been primed. Each packet lasts its bytes times d + 1 ticks. An empty shift has nothing to finish
(log entry 5). The bytes sent: a LINE is kind 1, tile index, line high byte first, tag, three zeros and four bytes a pixel, most
significant first; a MARK kind 2, SHOW or HOLD and tag; an IDLE kind 3. -/
def Obligations.PacketsFollowOneAnother : Prop :=
  ((∀ k : LinePacket, (Packet.line k).bytes.length = 8 + 4 * k.pixels.length
      ∧ (Packet.line k).bytes.take 8 =
          [1, BitVec.ofNat 8 k.idx, BitVec.ofNat 8 (k.line / 256), BitVec.ofNat 8 k.line, k.tag, 0, 0, 0]
      ∧ ∀ i (h : i < k.pixels.length), ((Packet.line k).bytes.drop (8 + 4 * i)).take 4 =
          [(k.pixels[i]).extractLsb' 24 8, (k.pixels[i]).extractLsb' 16 8, (k.pixels[i]).extractLsb' 8 8,
            (k.pixels[i]).extractLsb' 0 8])
    ∧ (∀ m : Mark, (Packet.mark m).bytes = [2, if m.shows = true then 1 else 0, m.tag, 0, 0, 0, 0, 0])
    ∧ Packet.idle.bytes = [3, 0, 0, 0, 0, 0, 0, 0])
    ∧ (∀ (p : Part) (k : LinePacket),
      p.lastLine k = true ↔ ∃ tile, p.tiles.getLast? = some tile ∧ k.idx = tile.idx ∧ k.line + 1 = p.th)
    ∧ (∀ p : Part,
      (p.lineComplete = true ↔ p.tileAt < p.tiles.length ∧ p.tw ≤ p.assembly.length)
      ∧ (∀ tile tag, p.tiles[p.tileAt]? = some tile → p.packet tag = ⟨tile.idx, p.line, tag, p.assembly⟩)
      ∧ (p.line + 1 < p.th → p.advance = { p with line := p.line + 1, fetched := 0, assembly := [] })
      ∧ (p.th ≤ p.line + 1 → p.advance = { p with tileAt := p.tileAt + 1, line := 0, fetched := 0, assembly := [] }))
    ∧ ∀ (l : Fin 24) (s : State),
      ((s.tx[l]).shift = none → exec (.packetFinish l) s = .next s)
      ∧ ∀ x : Shifting, (s.tx[l]).shift = some x → ∃ u t : State, exec (.packetFinish l) s = .next t
        ∧ (∀ d p k, s.so.send = some d → d.parts[l] = some p → x.packet = .line k → k.tag = d.tag → p.lastLine k = true →
            u.so.send = some { d with parts := put d.parts l (some { p with complete := true }) })
        ∧ ((∀ d p k, s.so.send = some d → d.parts[l] = some p → x.packet = .line k →
            ¬ (k.tag = d.tag ∧ p.lastLine k = true)) →
            u.so.send = s.so.send)
        ∧ u = { s with now := max s.now x.ends, so := { s.so with send := u.so.send } }
        ∧ (let y := s.tx[l]
          let ticks := s.cc.linkByteTicks l
          (s.cc.linkEnable l = false → t = { u with tx := put s.tx l { y with shift := none } })
          ∧ (∀ m, s.cc.linkEnable l = true → y.mark = some m →
              t = { u with tx := put s.tx l { y with shift := some ⟨.mark m, u.now + 8 * ticks⟩, mark := none } })
          ∧ (∀ k, s.cc.linkEnable l = true → y.mark = none → y.stage = some k →
              let began := some ⟨.line k, u.now + (8 + 4 * k.pixels.length) * ticks⟩
              t.so.claim = (s.so.claim || anyNeedsFetch t)
              ∧ ((∀ p, partOf u l = some p → p.lineComplete = false) →
                  t = { u with tx := put s.tx l { y with shift := began, stage := none },
                               so := { u.so with claim := t.so.claim } })
              ∧ (∀ d p, u.so.send = some d → d.parts[l] = some p → p.lineComplete = true →
                  t = { u with
                    tx := put s.tx l { y with shift := began, stage := some (p.packet d.tag) }
                    so := { u.so with
                      claim := t.so.claim
                      links := put s.so.links l { s.so.links[l] with primed := true, starved := false }
                      send := some { d with parts := put d.parts l (some p.advance) } } }))
          ∧ (s.cc.linkEnable l = true → y.mark = none → y.stage = none →
              let starves := (s.so.links[l]).primed = true ∧ (s.so.links[l]).starved = false
                ∧ ∃ p, partOf u l = some p ∧ p.complete = false
              (∀ j : Fin 24, t.so.links[j] = if j = l ∧ starves
                then { s.so.links[j] with starved := true, starves := (s.so.links[j]).starves + 1 } else s.so.links[j])
              ∧ t = { u with
                  tx := put s.tx l { y with shift := some ⟨.idle, u.now + 8 * ticks⟩ }
                  so := { u.so with links := t.so.links } }))

/-- R121, R122, R128, R200: RETURN_PACKET_ARRIVAL. A byte on a line is a low start bit, its bits from the least significant and a
high stop bit, and an idle line is high. Of the bytes that a return channel carries, the packet is cut at the rate held from its
first start bit: at an idle line of more than one byte time, or at a ninth byte. It is handled once the line has been idle so
long, or as the ninth byte begins (in whole ticks: log entry 17). The idle line is counted from the end of the tenth bit time of
the byte before it, also after a byte whose stop bit is low: the model's choice, which R200 leaves open (log entry 30). Ignored
while the link is OFF or its receive inhibit is set. Else, tested in this order: a packet that is not eight well-framed bytes of a
LATCH report is a framing error; one whose bytes do not sum to 255 modulo 256 is a check error; one that finds the buffer full is
an overrun; any other puts its tag in the buffer. An error sets its flag and the inhibit and empties the buffer; an ACTIVE or
RECOVER link enters FAULT with a report, and an ACTIVE one gives a leave notice. With no byte nothing changes (log entry 5). -/
def Obligations.ReturnPacketsAreReceivedOrFault : Prop :=
  (∀ (start : Nat) (b : Byte), byteReceived start (lineBits b) = ⟨start, b, true⟩ ∧ (lineBits b).length = 10
      ∧ (lineBits b)[0]? = some false ∧ (lineBits b)[9]? = some true
      ∧ ∀ i < 8, (lineBits b)[i + 1]? = some (b.getLsbD i))
    ∧ (∀ (bytes : List Byte) (j : Nat), 10 * bytes.length ≤ j → lineLevel bytes j = true)
    ∧ (∀ (bytes : List Byte) (j : Nat) (b : Byte), bytes[j / 10]? = some b → some (lineLevel bytes j) = (lineBits b)[j % 10]?)
    ∧ (∀ (l : Fin 24) (s : State), exec (.returnPacketArrival l []) s = .next s)
    ∧ ∀ (l : Fin 24) (first : RxByte) (more run : List RxByte) (s : State),
      let rate := rateAt s l first.start
      IsRun rate (first :: more) run →
      ∃ tick : Nat, (∀ b, run[8]? = some b → tick = b.start)
        ∧ (∀ b, run.length ≤ 8 → run.getLast? = some b → tick = b.start + 2 * (rate + 1) + 1)
        ∧ (let r := s.lsv.links[l]
          let s1 := { s with now := max s.now tick }
          let framed := run.length = 8 ∧ (∀ b ∈ run, b.stopHigh = true) ∧ first.data = 0x08
          let sum := (run.map fun b => b.data.toNat).sum % 256
          let set := fun r1 : LinkRecord => { s1 with lsv := { s.lsv with links := s.lsv.links.set l.val r1 } }
          let answer := exec (.returnPacketArrival l (first :: more)) s
          (r.state = .off ∨ r.inhibit = true → answer = .next s1)
          ∧ (r.state ≠ .off → r.inhibit = false → framed → sum = 255 → r.buffer = none →
              answer = .next (set { r with buffer := (run[1]?).map (·.data) }))
          ∧ (∀ cause r1, r.state ≠ .off → r.inhibit = false →
              (¬ framed ∧ cause = .framingError ∧ r1 = { r with framingError := true, inhibit := true, buffer := none })
                ∨ (framed ∧ sum ≠ 255 ∧ cause = .checkError ∧ r1 = { r with checkError := true, inhibit := true, buffer := none })
                ∨ (framed ∧ sum = 255 ∧ r.buffer ≠ none ∧ cause = .overrun
                    ∧ r1 = { r with overrun := true, inhibit := true, buffer := none }) →
              (r.state = .fault → answer = .next (set r1))
              ∧ (r.state = .active ∨ r.state = .recover →
                  let r2 := { r1 with state := LinkState.fault }
                  answer = .next (withReports
                    { set r2 with so := { s.so with leaves := s.so.leaves ++ (if r.state = .active then [l] else []) } }
                    [linkReport l r.state r2 cause]))))

/-- R123 to R126, R128, R132: LINK_CHECK and MARK_NOTICE. With the wall running, each link not OFF has its buffer consumed: an
ACTIVE link that matches the expected tag has its miss count cleared, and one that does not, with a tag expected, counts a miss
and at the miss limit enters FAULT with a leave notice; a FAULT link whose buffer held a tag enters RECOVER with a recover notice;
a RECOVER link's content is discarded, and so is that of a link joined at this very event, whose first check is the next one (log
entry 29). Reports stand in ascending link number. With the wall stopped no check is made. The tag expected is that of the last
mark notice whose own frame event notice was taken before: such notices are applied first, or before by MARK_NOTICE, which changes
nothing while its frame event notice is not taken. With no notice given nothing changes. (The two last: log entry 5.) -/
def Obligations.ChecksJudgeEachLink : Prop :=
  ∀ s : State,
    (s.lsv.frames = [] → exec .linkCheck s = .next s)
    ∧ (∀ n rest due wait, s.lsv.frames = n :: rest → s.lsv.marks = due ++ wait →
        (∀ m ∈ due, ∀ f ∈ s.lsv.frames, f.count ≠ m.count) →
        (∀ m, wait.head? = some m → ∃ f ∈ s.lsv.frames, f.count = m.count) →
        let expected := match due.getLast? with
          | none => s.lsv.expected
          | some m => some m.mark.tag
        ∃ t, exec .linkCheck s = .next t
        ∧ (∀ l : Fin 24, t.lsv.joined[l] = if s.lsv.joined[l] = some n.count then none else s.lsv.joined[l])
        ∧ (s.cc.running = false → t = { s with lsv := { s.lsv with
            frames := rest, marks := wait, expected := expected, joined := t.lsv.joined } })
        ∧ (s.cc.running = true →
          let judged := fun l : Fin 24 => decide ((s.lsv.links[l]).state = .active)
            && decide (s.lsv.joined[l] ≠ some n.count) && expected.isSome
          let misses := fun l : Fin 24 => judged l && decide ((s.lsv.links[l]).buffer ≠ expected)
          let faults := fun l : Fin 24 => misses l && decide (s.cc.missLimit ≤ (s.lsv.links[l]).miss + 1)
          let recovers := fun l : Fin 24 => decide ((s.lsv.links[l]).state = .fault) && (s.lsv.links[l]).buffer.isSome
          (∀ l : Fin 24,
            let r := s.lsv.links[l]
            (r.state = .off → t.lsv.links[l] = r)
            ∧ (r.state = .active → judged l = false → t.lsv.links[l] = { r with buffer := none })
            ∧ (judged l = true → misses l = false → t.lsv.links[l] = { r with buffer := none, miss := 0 })
            ∧ (misses l = true → t.lsv.links[l] = { r with
                buffer := none, miss := r.miss + 1, state := if faults l = true then .fault else .active })
            ∧ (r.state = .fault → recovers l = true →
                t.lsv.links[l] = { r with buffer := none, miss := 0, state := .recover })
            ∧ (r.state = .fault → recovers l = false → t.lsv.links[l] = r)
            ∧ (r.state = .recover → t.lsv.links[l] = { r with buffer := none }))
          ∧ t.rw.reports = s.rw.reports ++ (List.finRange 24).flatMap (fun l =>
              if faults l = true then [linkReport l .active t.lsv.links[l] .missLimit]
              else if recovers l = true then [linkReport l .fault t.lsv.links[l] .reportGood] else [])
          ∧ t = { s with
              lsv := { s.lsv with
                frames := rest, marks := wait, expected := expected, joined := t.lsv.joined, links := t.lsv.links }
              rw := { s.rw with reports := t.rw.reports }
              so := { s.so with leaves := s.so.leaves ++ (List.finRange 24).filter faults,
                                recovers := s.so.recovers ++ (List.finRange 24).filter recovers } }))
    ∧ (s.lsv.marks = [] → exec .markNotice s = .next s)
    ∧ (∀ m rest, s.lsv.marks = m :: rest → (∃ f ∈ s.lsv.frames, f.count = m.count) → exec .markNotice s = .next s)
    ∧ (∀ m rest, s.lsv.marks = m :: rest → (∀ f ∈ s.lsv.frames, f.count ≠ m.count) →
        exec .markNotice s = .next { s with lsv := { s.lsv with marks := rest, expected := some m.mark.tag } })

/-! ### Tally, zones and lights -/

/-- R136, R137, R142, R143: TALLY_EDGE and TALLY_SAMPLE. A changed level is seen; a selected edge sets the pending flag with a
report, or, with the flag set, the overrun flag without one; an edge not selected does no more. At a sample the active camera is
the first input of the rank that is high and whose edge mode is not OFF, and the active look its mapped look, or the default look
with none; a changed look gives a wall gain notice and a look notice with the new look's values. A level already seen is no edge,
and with no frame event notice given nothing is sampled (log entry 5). -/
def Obligations.TalliesChooseTheCameraAndLook : Prop :=
  (∀ (i : Fin 8) (high : Bool) (s : State),
    let seen : TallyUnit := { s.tu with levels := setBit s.tu.levels i high }
    let selected := s.cc.edgeMode i = 3 ∨ (s.cc.edgeMode i = 1 ∧ high = true) ∨ (s.cc.edgeMode i = 2 ∧ high = false)
    (∀ j : Fin 8, seen.levels.getLsbD j.val = if j = i then high else s.tu.levels.getLsbD j.val)
    ∧ (s.tu.levels.getLsbD i.val = high → exec (.tallyEdge i high) s = .next s)
    ∧ (s.tu.levels.getLsbD i.val ≠ high → ¬ selected → exec (.tallyEdge i high) s = .next { s with tu := seen })
    ∧ (s.tu.levels.getLsbD i.val ≠ high → selected → s.tu.pending.getLsbD i.val = true →
        exec (.tallyEdge i high) s = .next { s with tu := { seen with overrun := setBit s.tu.overrun i true } })
    ∧ (s.tu.levels.getLsbD i.val ≠ high → selected → s.tu.pending.getLsbD i.val = false →
        exec (.tallyEdge i high) s = .next (withReports
          { s with tu := { seen with pending := setBit s.tu.pending i true } }
          [⟨.tallyEdge, BitVec.ofNat 8 (i.val + 1), if high = true then 2 else 1, 0⟩])))
    ∧ (∀ s : State, s.tu.frames = [] → exec .tallySample s = .next s)
    ∧ (∀ (s : State) (n : FrameNotice) (rest : List FrameNotice) (camera : Option (Fin 8)), s.tu.frames = n :: rest →
      let on := fun p : Nat => s.tu.levels.getLsbD (s.cc.rankAt p).val = true ∧ s.cc.edgeMode (s.cc.rankAt p) ≠ 0
      ((camera = none ∧ ∀ p < 8, ¬ on p)
        ∨ (∃ p < 8, on p ∧ (∀ q < p, ¬ on q) ∧ camera = some (s.cc.rankAt p))) →
      let look := match camera with
        | some i => s.cc.cameraLook i
        | none => s.cc.defaultLook
      let s1 := { s with tu := { s.tu with frames := rest, camera := camera, look := look } }
      (look = s.tu.look → exec .tallySample s = .next s1)
      ∧ (look ≠ s.tu.look → exec .tallySample s = .next { s1 with
          so := { s.so with gains := s.so.gains ++ [(s.cc.look look).wallGain] }
          le := { s.le with gainNotices := s.le.gainNotices ++ [⟨.look, (s.cc.look look).gains⟩] } }))

/-- R62 to R64: what a segment contributes to a zone. A pixel is a highlight for clip code c when its largest component is at or
above 64 × c + 32, and never for code OFF. The contribution is the sum of each component over the included pixels of the segment's
16, each read from its 32-bit word with its spare bits ignored, and their number; a segment that does not belong to a zone
contributes nothing. -/
def Obligations.SegmentsContributeTheirIncludedPixels : Prop :=
  (∀ (clip : Option Nat) (p : RGB),
    (clip = none → isHighlight clip p = false)
    ∧ (∀ c, clip = some c → (isHighlight clip p = true ↔ 64 * c + 32 ≤ p.r ∨ 64 * c + 32 ≤ p.g ∨ 64 * c + 32 ≤ p.b)))
    ∧ (∀ (a : Acc) (clip : Option Nat) (bytes : List Byte),
      let px := (List.range 16).map fun i =>
        wordOf (bytes.getD (4 * i) 0) (bytes.getD (4 * i + 1) 0) (bytes.getD (4 * i + 2) 0) (bytes.getD (4 * i + 3) 0)
      let included := px.filter fun w => !isHighlight clip ⟨field w 0 10, field w 10 10, field w 20 10⟩
      let sum := fun lo : Nat => (included.map fun w => field w lo 10).sum
      a.plus clip bytes = { a with
          sum := ⟨a.sum.r + sum 0, a.sum.g + sum 10, a.sum.b + sum 20⟩, count := a.count + included.length }
      ∧ sum 0 ≤ 16368 ∧ sum 10 ≤ 16368 ∧ sum 20 ≤ 16368 ∧ included.length ≤ 16
      ∧ (∀ new, (a.plus clip bytes).swap clip bytes new = a.plus clip new))
    ∧ (∀ (columns : Nat) (b : Bank) (seg : Nat) (bytes : List Byte) (z : Fin 64),
      let g := b.geom[z]
      let belongs := g.enable = true ∧ (g.y0 ≤ seg / columns ∧ seg / columns ≤ g.y1)
        ∧ (g.s0 ≤ seg % columns ∧ seg % columns ≤ g.s1)
      (belongs → (addSegment columns b seg bytes).acc[z] = (b.acc[z]).plus g.clip bytes)
      ∧ (¬ belongs → (addSegment columns b seg bytes).acc[z] = b.acc[z]))

/-- R72, R73, R156 to R161, R163, R164: the retargets. The mean of a zone of the bank on the wall is its sum divided by its count,
rounded down, and absent where the zone was disabled or counts nothing. SHOW_NOTICE, LOOK_NOTICE and LIGHTING_GAINS_NOTICE
retarget every ZONE fixture, the last two with the gains they carry; ENTRY_NOTICE retargets the fixture named in whatever mode. A
ZONE fixture with no mean keeps its target and fade. Look notices and lighting gains notices are taken in the order of giving
(R144, R148): while the first that waits is of the other kind, and with no notice given, nothing changes (log entries 5 and 6). -/
def Obligations.NoticesRetargetTheFixtures : Prop :=
  (∀ s : State,
    (∀ k, bankOnWall s = none → meanQuery s ≠ some k)
    ∧ (∀ k, bankOnWall s = some k → ∃ means, meanQuery s = some (k, means) ∧ ∀ z : Fin 64,
        let a := (s.banks[k]).acc[z]
        means[z] = if a.skipped = true ∨ a.count = 0 then none
          else some ⟨a.sum.r / a.count, a.sum.g / a.count, a.sum.b / a.count⟩)
    ∧ (∀ k : Fin 4, bankOnWall s = some k → (s.banks[k]).state.displays = true)
    ∧ (bankOnWall s = none → ∀ k : Fin 4, (s.banks[k]).state.displays = false))
    ∧ ∀ s : State,
      let zones := fun (q : RGB) (t : State) => ∀ i : Fin 128,
        (fixMode s.cc.fixtures[i] = 1 → Retargeted s.le.fixtures[i] t.le.fixtures[i] s.cc.fixtures[i] q (meanQuery s))
        ∧ (fixMode s.cc.fixtures[i] ≠ 1 → t.le.fixtures[i] = s.le.fixtures[i])
      (s.le.shows = 0 → exec .showNotice s = .next s)
      ∧ ((∀ q rest, s.le.gainNotices ≠ ⟨.look, q⟩ :: rest) → exec .lookNotice s = .next s)
      ∧ ((∀ q rest, s.le.gainNotices ≠ ⟨.lights, q⟩ :: rest) → exec .lightingGainsNotice s = .next s)
      ∧ (s.le.entries = [] → exec .entryNotice s = .next s)
      ∧ (∀ n, s.le.shows = n + 1 → ∃ t, exec .showNotice s = .next t ∧ zones s.le.gains t
          ∧ t = { s with le := { s.le with shows := n, fixtures := t.le.fixtures } })
      ∧ (∀ q rest, s.le.gainNotices = ⟨.look, q⟩ :: rest → ∃ t, exec .lookNotice s = .next t ∧ zones q t
          ∧ t = { s with le := { s.le with gainNotices := rest, gains := q, fixtures := t.le.fixtures } })
      ∧ (∀ q rest, s.le.gainNotices = ⟨.lights, q⟩ :: rest → ∃ t, exec .lightingGainsNotice s = .next t ∧ zones q t
          ∧ t = { s with le := { s.le with gainNotices := rest, gains := q, fixtures := t.le.fixtures } })
      ∧ (∀ i rest, s.le.entries = i :: rest → ∃ t, exec .entryNotice s = .next t
          ∧ Retargeted s.le.fixtures[i] t.le.fixtures[i] s.cc.fixtures[i] s.le.gains (meanQuery s)
          ∧ (∀ j : Fin 128, j ≠ i → t.le.fixtures[j] = s.le.fixtures[j])
          ∧ t = { s with le := { s.le with entries := rest, fixtures := t.le.fixtures } })

/-- R154, R165, R168 to R170, R175 to R177: FADE_STEP and LAMP_UNIT_FINISH. At a frame event notice that does not carry LOST every
fading fixture moves by its step, and to its target as its last frame is counted. Then each enabled lamp link is given a frame of
its slots, each from the highest-numbered placed fixture that covers it, replacing a staged one with a count. A finished unit is
followed by the staged frame, else by a fill unit, on an enabled link, and by nothing on a disabled one. With no frame event
notice given, and with an empty shift, nothing changes (log entry 5). -/
def Obligations.FadesStepAndLampsAreSent : Prop :=
  (∀ s : State, s.le.frames = [] → exec .fadeStep s = .next s)
    ∧ (∀ (s : State) (n : FrameNotice) (rest : List FrameNotice), s.le.frames = n :: rest → ∃ t : State,
      exec .fadeStep s = .next t
      ∧ (n.lock = .lost → t.le.fixtures = s.le.fixtures)
      ∧ (n.lock ≠ .lost → ∀ i : Fin 128,
          let f := s.le.fixtures[i]
          let g := t.le.fixtures[i]
          (f.remaining = 0 → g = f)
          ∧ (f.remaining ≠ 0 → g = { f with remaining := f.remaining - 1, level := g.level }
              ∧ (f.remaining = 1 → g.level = f.target)
              ∧ (f.remaining ≠ 1 → ComponentStepped f.level.r f.target.r f.step.r g.level.r
                  ∧ ComponentStepped f.level.g f.target.g f.step.g g.level.g
                  ∧ ComponentStepped f.level.b f.target.b f.step.b g.level.b)))
      ∧ (∀ l : Fin 2,
          (s.cc.lampEnable l = false → t.lamps[l] = s.lamps[l])
          ∧ (s.cc.lampEnable l = true → ∃ slots : List Byte, slots.length = s.cc.lampSlots l
            ∧ (∀ j < s.cc.lampSlots l,
                (∀ i : Fin 128, covers s.cc l j i = true → (∀ h : Fin 128, i < h → covers s.cc l j h = false) →
                  let x := (t.le.fixtures[i]).level
                  let v := [x.r / 256, x.r, x.g / 256, x.g, x.b / 256, x.b]
                  slots[j]? = some (BitVec.ofNat 8 (v.getD (j - fixSlot s.cc.fixtures[i]) 0)))
                ∧ ((∀ i : Fin 128, covers s.cc l j i = false) → slots[j]? = some 0))
            ∧ (let sum := (slots.map BitVec.toNat).sum
              let frame : List Byte := [0x5A, BitVec.ofNat 8 (slots.length / 256), BitVec.ofNat 8 slots.length] ++ slots
                ++ [BitVec.ofNat 8 (sum / 256), BitVec.ofNat 8 sum]
              t.lamps[l] = { s.lamps[l] with
                stage := some frame
                replaced := if (s.lamps[l]).stage = none then (s.lamps[l]).replaced else (s.lamps[l]).replaced + 1 })))
      ∧ t = { s with lamps := t.lamps, le := { s.le with frames := rest, fixtures := t.le.fixtures } })
    ∧ (∀ (c : Shadow) (l : Fin 2) (j : Nat) (i : Fin 128),
      covers c l j i = true ↔ fixLink c.fixtures[i] = l ∧ fixSlot c.fixtures[i] + 6 ≤ c.lampSlots l
        ∧ fixSlot c.fixtures[i] ≤ j ∧ j < fixSlot c.fixtures[i] + 6)
    ∧ (∀ (s : State) (l : Fin 2),
      ((s.lamps[l]).shift = .empty → exec (.lampUnitFinish l) s = .next s)
      ∧ (∀ ends, (s.lamps[l]).shift = .fill ends ∨ (∃ bytes, (s.lamps[l]).shift = .frame bytes ends) →
          let now := max s.now ends
          let set := fun x : LampLink => { s with now := now, lamps := put s.lamps l x }
          (s.cc.lampEnable l = false → exec (.lampUnitFinish l) s = .next (set { s.lamps[l] with shift := .empty }))
          ∧ (s.cc.lampEnable l = true → (s.lamps[l]).stage = none →
              exec (.lampUnitFinish l) s = .next (set { s.lamps[l] with shift := .fill (now + s.cc.lampByteTicks l) }))
          ∧ (∀ frame, s.cc.lampEnable l = true → (s.lamps[l]).stage = some frame →
              exec (.lampUnitFinish l) s = .next (set { s.lamps[l] with
                shift := .frame frame (now + frame.length * s.cc.lampByteTicks l), stage := none }))))

end
end

