-- ==== Sys2Proof/Laws/State.lean ====
section
/-! SUPPORT. Every field of the state after each record update that the meanings share, and entries of tables after an update, so
that no later proof unfolds one. -/

namespace Sys2Proof.Machine

/-! Tables. An entry is named by a number and its bound, the form to which simp brings an entry named by a `Fin`. -/

@[simp] theorem getElem_put {α : Type} {n : Nat} (v : Vector α n) (i : Fin n) (x : α) (j : Nat) (h : j < n) :
    (put v i x)[j] = if i.val = j then x else v[j] := by
  simp [put, Vector.getElem_set]

@[simp] theorem getElem_tabulate {α : Type} {n : Nat} (f : Fin n → α) (j : Nat) (h : j < n) : (tabulate f)[j] = f ⟨j, h⟩ := by
  simp [tabulate]

theorem put_same {α : Type} {n : Nat} (v : Vector α n) (i : Fin n) (x : α) : (put v i x)[i] = x := by simp

theorem put_ne {α : Type} {n : Nat} (v : Vector α n) (i j : Fin n) (x : α) (h : j ≠ i) : (put v i x)[j] = v[j] := by
  have hn : i.val ≠ j.val := fun e => h (Fin.ext e.symm)
  simp [hn]

theorem put_self {α : Type} {n : Nat} (v : Vector α n) (i : Fin n) : put v i v[i] = v := by
  ext j hj
  by_cases h : i.val = j
  · subst h; simp
  · simp [h]

@[simp] theorem put_put {α : Type} {n : Nat} (v : Vector α n) (i : Fin n) (x y : α) : put (put v i x) i y = put v i y := by
  ext j hj
  by_cases h : i.val = j
  · simp [h]
  · simp [h]

/-! atTime -/

@[simp] theorem atTime_now (s : State) (t : Nat) : (atTime s t).now = max s.now t := rfl
@[simp] theorem atTime_straps (s : State) (t : Nat) : (atTime s t).straps = s.straps := rfl
@[simp] theorem atTime_port (s : State) (t : Nat) : (atTime s t).port = s.port := rfl
@[simp] theorem atTime_wd (s : State) (t : Nat) : (atTime s t).wd = s.wd := rfl
@[simp] theorem atTime_passed (s : State) (t : Nat) : (atTime s t).passed = s.passed := rfl
@[simp] theorem atTime_channel (s : State) (t : Nat) : (atTime s t).channel = s.channel := rfl
@[simp] theorem atTime_mem (s : State) (t : Nat) : (atTime s t).mem = s.mem := rfl
@[simp] theorem atTime_cc (s : State) (t : Nat) : (atTime s t).cc = s.cc := rfl
@[simp] theorem atTime_banks (s : State) (t : Nat) : (atTime s t).banks = s.banks := rfl
@[simp] theorem atTime_map0 (s : State) (t : Nat) : (atTime s t).map0 = s.map0 := rfl
@[simp] theorem atTime_map1 (s : State) (t : Nat) : (atTime s t).map1 = s.map1 := rfl
@[simp] theorem atTime_nextMap (s : State) (t : Nat) : (atTime s t).nextMap = s.nextMap := rfl
@[simp] theorem atTime_copy (s : State) (t : Nat) : (atTime s t).copy = s.copy := rfl
@[simp] theorem atTime_ru (s : State) (t : Nat) : (atTime s t).ru = s.ru := rfl
@[simp] theorem atTime_so (s : State) (t : Nat) : (atTime s t).so = s.so := rfl
@[simp] theorem atTime_tx (s : State) (t : Nat) : (atTime s t).tx = s.tx := rfl
@[simp] theorem atTime_lsv (s : State) (t : Nat) : (atTime s t).lsv = s.lsv := rfl
@[simp] theorem atTime_tu (s : State) (t : Nat) : (atTime s t).tu = s.tu := rfl
@[simp] theorem atTime_le (s : State) (t : Nat) : (atTime s t).le = s.le := rfl
@[simp] theorem atTime_lamps (s : State) (t : Nat) : (atTime s t).lamps = s.lamps := rfl
@[simp] theorem atTime_rw (s : State) (t : Nat) : (atTime s t).rw = s.rw := rfl
@[simp] theorem atTime_draws (s : State) (t : Nat) : (atTime s t).draws = s.draws := rfl
@[simp] theorem atTime_pending (s : State) (t : Nat) : (atTime s t).pending = s.pending := rfl

/-! report -/

@[simp] theorem report_now (s : State) (k : ReportKind) (n : Nat) (a b : Word) : (report s k n a b).now = s.now := rfl
@[simp] theorem report_straps (s : State) (k : ReportKind) (n : Nat) (a b : Word) : (report s k n a b).straps = s.straps := rfl
@[simp] theorem report_port (s : State) (k : ReportKind) (n : Nat) (a b : Word) : (report s k n a b).port = s.port := rfl
@[simp] theorem report_wd (s : State) (k : ReportKind) (n : Nat) (a b : Word) : (report s k n a b).wd = s.wd := rfl
@[simp] theorem report_passed (s : State) (k : ReportKind) (n : Nat) (a b : Word) : (report s k n a b).passed = s.passed := rfl
@[simp] theorem report_channel (s : State) (k : ReportKind) (n : Nat) (a b : Word) : (report s k n a b).channel = s.channel := rfl
@[simp] theorem report_mem (s : State) (k : ReportKind) (n : Nat) (a b : Word) : (report s k n a b).mem = s.mem := rfl
@[simp] theorem report_cc (s : State) (k : ReportKind) (n : Nat) (a b : Word) : (report s k n a b).cc = s.cc := rfl
@[simp] theorem report_banks (s : State) (k : ReportKind) (n : Nat) (a b : Word) : (report s k n a b).banks = s.banks := rfl
@[simp] theorem report_map0 (s : State) (k : ReportKind) (n : Nat) (a b : Word) : (report s k n a b).map0 = s.map0 := rfl
@[simp] theorem report_map1 (s : State) (k : ReportKind) (n : Nat) (a b : Word) : (report s k n a b).map1 = s.map1 := rfl
@[simp] theorem report_nextMap (s : State) (k : ReportKind) (n : Nat) (a b : Word) : (report s k n a b).nextMap = s.nextMap := rfl
@[simp] theorem report_copy (s : State) (k : ReportKind) (n : Nat) (a b : Word) : (report s k n a b).copy = s.copy := rfl
@[simp] theorem report_ru (s : State) (k : ReportKind) (n : Nat) (a b : Word) : (report s k n a b).ru = s.ru := rfl
@[simp] theorem report_so (s : State) (k : ReportKind) (n : Nat) (a b : Word) : (report s k n a b).so = s.so := rfl
@[simp] theorem report_tx (s : State) (k : ReportKind) (n : Nat) (a b : Word) : (report s k n a b).tx = s.tx := rfl
@[simp] theorem report_lsv (s : State) (k : ReportKind) (n : Nat) (a b : Word) : (report s k n a b).lsv = s.lsv := rfl
@[simp] theorem report_tu (s : State) (k : ReportKind) (n : Nat) (a b : Word) : (report s k n a b).tu = s.tu := rfl
@[simp] theorem report_le (s : State) (k : ReportKind) (n : Nat) (a b : Word) : (report s k n a b).le = s.le := rfl
@[simp] theorem report_lamps (s : State) (k : ReportKind) (n : Nat) (a b : Word) : (report s k n a b).lamps = s.lamps := rfl
@[simp] theorem report_rw (s : State) (k : ReportKind) (n : Nat) (a b : Word) : (report s k n a b).rw = { s.rw with reports := s.rw.reports ++ [⟨k, BitVec.ofNat 8 n, a, b⟩] } := rfl
@[simp] theorem report_draws (s : State) (k : ReportKind) (n : Nat) (a b : Word) : (report s k n a b).draws = s.draws := rfl
@[simp] theorem report_pending (s : State) (k : ReportKind) (n : Nat) (a b : Word) : (report s k n a b).pending = s.pending := rfl

/-! setBank -/

@[simp] theorem setBank_now (s : State) (k : Fin 4) (b : Bank) : (setBank s k b).now = s.now := rfl
@[simp] theorem setBank_straps (s : State) (k : Fin 4) (b : Bank) : (setBank s k b).straps = s.straps := rfl
@[simp] theorem setBank_port (s : State) (k : Fin 4) (b : Bank) : (setBank s k b).port = s.port := rfl
@[simp] theorem setBank_wd (s : State) (k : Fin 4) (b : Bank) : (setBank s k b).wd = s.wd := rfl
@[simp] theorem setBank_passed (s : State) (k : Fin 4) (b : Bank) : (setBank s k b).passed = s.passed := rfl
@[simp] theorem setBank_channel (s : State) (k : Fin 4) (b : Bank) : (setBank s k b).channel = s.channel := rfl
@[simp] theorem setBank_mem (s : State) (k : Fin 4) (b : Bank) : (setBank s k b).mem = s.mem := rfl
@[simp] theorem setBank_cc (s : State) (k : Fin 4) (b : Bank) : (setBank s k b).cc = s.cc := rfl
@[simp] theorem setBank_banks (s : State) (k : Fin 4) (b : Bank) : (setBank s k b).banks = put s.banks k b := rfl
@[simp] theorem setBank_map0 (s : State) (k : Fin 4) (b : Bank) : (setBank s k b).map0 = s.map0 := rfl
@[simp] theorem setBank_map1 (s : State) (k : Fin 4) (b : Bank) : (setBank s k b).map1 = s.map1 := rfl
@[simp] theorem setBank_nextMap (s : State) (k : Fin 4) (b : Bank) : (setBank s k b).nextMap = s.nextMap := rfl
@[simp] theorem setBank_copy (s : State) (k : Fin 4) (b : Bank) : (setBank s k b).copy = s.copy := rfl
@[simp] theorem setBank_ru (s : State) (k : Fin 4) (b : Bank) : (setBank s k b).ru = s.ru := rfl
@[simp] theorem setBank_so (s : State) (k : Fin 4) (b : Bank) : (setBank s k b).so = s.so := rfl
@[simp] theorem setBank_tx (s : State) (k : Fin 4) (b : Bank) : (setBank s k b).tx = s.tx := rfl
@[simp] theorem setBank_lsv (s : State) (k : Fin 4) (b : Bank) : (setBank s k b).lsv = s.lsv := rfl
@[simp] theorem setBank_tu (s : State) (k : Fin 4) (b : Bank) : (setBank s k b).tu = s.tu := rfl
@[simp] theorem setBank_le (s : State) (k : Fin 4) (b : Bank) : (setBank s k b).le = s.le := rfl
@[simp] theorem setBank_lamps (s : State) (k : Fin 4) (b : Bank) : (setBank s k b).lamps = s.lamps := rfl
@[simp] theorem setBank_rw (s : State) (k : Fin 4) (b : Bank) : (setBank s k b).rw = s.rw := rfl
@[simp] theorem setBank_draws (s : State) (k : Fin 4) (b : Bank) : (setBank s k b).draws = s.draws := rfl
@[simp] theorem setBank_pending (s : State) (k : Fin 4) (b : Bank) : (setBank s k b).pending = s.pending := rfl

/-! setTx -/

@[simp] theorem setTx_now (s : State) (l : Fin 24) (x : Transmitter) : (setTx s l x).now = s.now := rfl
@[simp] theorem setTx_straps (s : State) (l : Fin 24) (x : Transmitter) : (setTx s l x).straps = s.straps := rfl
@[simp] theorem setTx_port (s : State) (l : Fin 24) (x : Transmitter) : (setTx s l x).port = s.port := rfl
@[simp] theorem setTx_wd (s : State) (l : Fin 24) (x : Transmitter) : (setTx s l x).wd = s.wd := rfl
@[simp] theorem setTx_passed (s : State) (l : Fin 24) (x : Transmitter) : (setTx s l x).passed = s.passed := rfl
@[simp] theorem setTx_channel (s : State) (l : Fin 24) (x : Transmitter) : (setTx s l x).channel = s.channel := rfl
@[simp] theorem setTx_mem (s : State) (l : Fin 24) (x : Transmitter) : (setTx s l x).mem = s.mem := rfl
@[simp] theorem setTx_cc (s : State) (l : Fin 24) (x : Transmitter) : (setTx s l x).cc = s.cc := rfl
@[simp] theorem setTx_banks (s : State) (l : Fin 24) (x : Transmitter) : (setTx s l x).banks = s.banks := rfl
@[simp] theorem setTx_map0 (s : State) (l : Fin 24) (x : Transmitter) : (setTx s l x).map0 = s.map0 := rfl
@[simp] theorem setTx_map1 (s : State) (l : Fin 24) (x : Transmitter) : (setTx s l x).map1 = s.map1 := rfl
@[simp] theorem setTx_nextMap (s : State) (l : Fin 24) (x : Transmitter) : (setTx s l x).nextMap = s.nextMap := rfl
@[simp] theorem setTx_copy (s : State) (l : Fin 24) (x : Transmitter) : (setTx s l x).copy = s.copy := rfl
@[simp] theorem setTx_ru (s : State) (l : Fin 24) (x : Transmitter) : (setTx s l x).ru = s.ru := rfl
@[simp] theorem setTx_so (s : State) (l : Fin 24) (x : Transmitter) : (setTx s l x).so = s.so := rfl
@[simp] theorem setTx_tx (s : State) (l : Fin 24) (x : Transmitter) : (setTx s l x).tx = put s.tx l x := rfl
@[simp] theorem setTx_lsv (s : State) (l : Fin 24) (x : Transmitter) : (setTx s l x).lsv = s.lsv := rfl
@[simp] theorem setTx_tu (s : State) (l : Fin 24) (x : Transmitter) : (setTx s l x).tu = s.tu := rfl
@[simp] theorem setTx_le (s : State) (l : Fin 24) (x : Transmitter) : (setTx s l x).le = s.le := rfl
@[simp] theorem setTx_lamps (s : State) (l : Fin 24) (x : Transmitter) : (setTx s l x).lamps = s.lamps := rfl
@[simp] theorem setTx_rw (s : State) (l : Fin 24) (x : Transmitter) : (setTx s l x).rw = s.rw := rfl
@[simp] theorem setTx_draws (s : State) (l : Fin 24) (x : Transmitter) : (setTx s l x).draws = s.draws := rfl
@[simp] theorem setTx_pending (s : State) (l : Fin 24) (x : Transmitter) : (setTx s l x).pending = s.pending := rfl

/-! setLink -/

@[simp] theorem setLink_now (s : State) (l : Fin 24) (r : LinkRecord) : (setLink s l r).now = s.now := rfl
@[simp] theorem setLink_straps (s : State) (l : Fin 24) (r : LinkRecord) : (setLink s l r).straps = s.straps := rfl
@[simp] theorem setLink_port (s : State) (l : Fin 24) (r : LinkRecord) : (setLink s l r).port = s.port := rfl
@[simp] theorem setLink_wd (s : State) (l : Fin 24) (r : LinkRecord) : (setLink s l r).wd = s.wd := rfl
@[simp] theorem setLink_passed (s : State) (l : Fin 24) (r : LinkRecord) : (setLink s l r).passed = s.passed := rfl
@[simp] theorem setLink_channel (s : State) (l : Fin 24) (r : LinkRecord) : (setLink s l r).channel = s.channel := rfl
@[simp] theorem setLink_mem (s : State) (l : Fin 24) (r : LinkRecord) : (setLink s l r).mem = s.mem := rfl
@[simp] theorem setLink_cc (s : State) (l : Fin 24) (r : LinkRecord) : (setLink s l r).cc = s.cc := rfl
@[simp] theorem setLink_banks (s : State) (l : Fin 24) (r : LinkRecord) : (setLink s l r).banks = s.banks := rfl
@[simp] theorem setLink_map0 (s : State) (l : Fin 24) (r : LinkRecord) : (setLink s l r).map0 = s.map0 := rfl
@[simp] theorem setLink_map1 (s : State) (l : Fin 24) (r : LinkRecord) : (setLink s l r).map1 = s.map1 := rfl
@[simp] theorem setLink_nextMap (s : State) (l : Fin 24) (r : LinkRecord) : (setLink s l r).nextMap = s.nextMap := rfl
@[simp] theorem setLink_copy (s : State) (l : Fin 24) (r : LinkRecord) : (setLink s l r).copy = s.copy := rfl
@[simp] theorem setLink_ru (s : State) (l : Fin 24) (r : LinkRecord) : (setLink s l r).ru = s.ru := rfl
@[simp] theorem setLink_so (s : State) (l : Fin 24) (r : LinkRecord) : (setLink s l r).so = s.so := rfl
@[simp] theorem setLink_tx (s : State) (l : Fin 24) (r : LinkRecord) : (setLink s l r).tx = s.tx := rfl
@[simp] theorem setLink_lsv (s : State) (l : Fin 24) (r : LinkRecord) : (setLink s l r).lsv = { s.lsv with links := put s.lsv.links l r } := rfl
@[simp] theorem setLink_tu (s : State) (l : Fin 24) (r : LinkRecord) : (setLink s l r).tu = s.tu := rfl
@[simp] theorem setLink_le (s : State) (l : Fin 24) (r : LinkRecord) : (setLink s l r).le = s.le := rfl
@[simp] theorem setLink_lamps (s : State) (l : Fin 24) (r : LinkRecord) : (setLink s l r).lamps = s.lamps := rfl
@[simp] theorem setLink_rw (s : State) (l : Fin 24) (r : LinkRecord) : (setLink s l r).rw = s.rw := rfl
@[simp] theorem setLink_draws (s : State) (l : Fin 24) (r : LinkRecord) : (setLink s l r).draws = s.draws := rfl
@[simp] theorem setLink_pending (s : State) (l : Fin 24) (r : LinkRecord) : (setLink s l r).pending = s.pending := rfl

/-! setScanLink -/

@[simp] theorem setScanLink_now (s : State) (l : Fin 24) (r : ScanLink) : (setScanLink s l r).now = s.now := rfl
@[simp] theorem setScanLink_straps (s : State) (l : Fin 24) (r : ScanLink) : (setScanLink s l r).straps = s.straps := rfl
@[simp] theorem setScanLink_port (s : State) (l : Fin 24) (r : ScanLink) : (setScanLink s l r).port = s.port := rfl
@[simp] theorem setScanLink_wd (s : State) (l : Fin 24) (r : ScanLink) : (setScanLink s l r).wd = s.wd := rfl
@[simp] theorem setScanLink_passed (s : State) (l : Fin 24) (r : ScanLink) : (setScanLink s l r).passed = s.passed := rfl
@[simp] theorem setScanLink_channel (s : State) (l : Fin 24) (r : ScanLink) : (setScanLink s l r).channel = s.channel := rfl
@[simp] theorem setScanLink_mem (s : State) (l : Fin 24) (r : ScanLink) : (setScanLink s l r).mem = s.mem := rfl
@[simp] theorem setScanLink_cc (s : State) (l : Fin 24) (r : ScanLink) : (setScanLink s l r).cc = s.cc := rfl
@[simp] theorem setScanLink_banks (s : State) (l : Fin 24) (r : ScanLink) : (setScanLink s l r).banks = s.banks := rfl
@[simp] theorem setScanLink_map0 (s : State) (l : Fin 24) (r : ScanLink) : (setScanLink s l r).map0 = s.map0 := rfl
@[simp] theorem setScanLink_map1 (s : State) (l : Fin 24) (r : ScanLink) : (setScanLink s l r).map1 = s.map1 := rfl
@[simp] theorem setScanLink_nextMap (s : State) (l : Fin 24) (r : ScanLink) : (setScanLink s l r).nextMap = s.nextMap := rfl
@[simp] theorem setScanLink_copy (s : State) (l : Fin 24) (r : ScanLink) : (setScanLink s l r).copy = s.copy := rfl
@[simp] theorem setScanLink_ru (s : State) (l : Fin 24) (r : ScanLink) : (setScanLink s l r).ru = s.ru := rfl
@[simp] theorem setScanLink_so (s : State) (l : Fin 24) (r : ScanLink) : (setScanLink s l r).so = { s.so with links := put s.so.links l r } := rfl
@[simp] theorem setScanLink_tx (s : State) (l : Fin 24) (r : ScanLink) : (setScanLink s l r).tx = s.tx := rfl
@[simp] theorem setScanLink_lsv (s : State) (l : Fin 24) (r : ScanLink) : (setScanLink s l r).lsv = s.lsv := rfl
@[simp] theorem setScanLink_tu (s : State) (l : Fin 24) (r : ScanLink) : (setScanLink s l r).tu = s.tu := rfl
@[simp] theorem setScanLink_le (s : State) (l : Fin 24) (r : ScanLink) : (setScanLink s l r).le = s.le := rfl
@[simp] theorem setScanLink_lamps (s : State) (l : Fin 24) (r : ScanLink) : (setScanLink s l r).lamps = s.lamps := rfl
@[simp] theorem setScanLink_rw (s : State) (l : Fin 24) (r : ScanLink) : (setScanLink s l r).rw = s.rw := rfl
@[simp] theorem setScanLink_draws (s : State) (l : Fin 24) (r : ScanLink) : (setScanLink s l r).draws = s.draws := rfl
@[simp] theorem setScanLink_pending (s : State) (l : Fin 24) (r : ScanLink) : (setScanLink s l r).pending = s.pending := rfl

/-! setFixture -/

@[simp] theorem setFixture_now (s : State) (i : Fin 128) (f : Fixture) : (setFixture s i f).now = s.now := rfl
@[simp] theorem setFixture_straps (s : State) (i : Fin 128) (f : Fixture) : (setFixture s i f).straps = s.straps := rfl
@[simp] theorem setFixture_port (s : State) (i : Fin 128) (f : Fixture) : (setFixture s i f).port = s.port := rfl
@[simp] theorem setFixture_wd (s : State) (i : Fin 128) (f : Fixture) : (setFixture s i f).wd = s.wd := rfl
@[simp] theorem setFixture_passed (s : State) (i : Fin 128) (f : Fixture) : (setFixture s i f).passed = s.passed := rfl
@[simp] theorem setFixture_channel (s : State) (i : Fin 128) (f : Fixture) : (setFixture s i f).channel = s.channel := rfl
@[simp] theorem setFixture_mem (s : State) (i : Fin 128) (f : Fixture) : (setFixture s i f).mem = s.mem := rfl
@[simp] theorem setFixture_cc (s : State) (i : Fin 128) (f : Fixture) : (setFixture s i f).cc = s.cc := rfl
@[simp] theorem setFixture_banks (s : State) (i : Fin 128) (f : Fixture) : (setFixture s i f).banks = s.banks := rfl
@[simp] theorem setFixture_map0 (s : State) (i : Fin 128) (f : Fixture) : (setFixture s i f).map0 = s.map0 := rfl
@[simp] theorem setFixture_map1 (s : State) (i : Fin 128) (f : Fixture) : (setFixture s i f).map1 = s.map1 := rfl
@[simp] theorem setFixture_nextMap (s : State) (i : Fin 128) (f : Fixture) : (setFixture s i f).nextMap = s.nextMap := rfl
@[simp] theorem setFixture_copy (s : State) (i : Fin 128) (f : Fixture) : (setFixture s i f).copy = s.copy := rfl
@[simp] theorem setFixture_ru (s : State) (i : Fin 128) (f : Fixture) : (setFixture s i f).ru = s.ru := rfl
@[simp] theorem setFixture_so (s : State) (i : Fin 128) (f : Fixture) : (setFixture s i f).so = s.so := rfl
@[simp] theorem setFixture_tx (s : State) (i : Fin 128) (f : Fixture) : (setFixture s i f).tx = s.tx := rfl
@[simp] theorem setFixture_lsv (s : State) (i : Fin 128) (f : Fixture) : (setFixture s i f).lsv = s.lsv := rfl
@[simp] theorem setFixture_tu (s : State) (i : Fin 128) (f : Fixture) : (setFixture s i f).tu = s.tu := rfl
@[simp] theorem setFixture_le (s : State) (i : Fin 128) (f : Fixture) : (setFixture s i f).le = { s.le with fixtures := put s.le.fixtures i f } := rfl
@[simp] theorem setFixture_lamps (s : State) (i : Fin 128) (f : Fixture) : (setFixture s i f).lamps = s.lamps := rfl
@[simp] theorem setFixture_rw (s : State) (i : Fin 128) (f : Fixture) : (setFixture s i f).rw = s.rw := rfl
@[simp] theorem setFixture_draws (s : State) (i : Fin 128) (f : Fixture) : (setFixture s i f).draws = s.draws := rfl
@[simp] theorem setFixture_pending (s : State) (i : Fin 128) (f : Fixture) : (setFixture s i f).pending = s.pending := rfl

/-! setLamp -/

@[simp] theorem setLamp_now (s : State) (l : Fin 2) (x : LampLink) : (setLamp s l x).now = s.now := rfl
@[simp] theorem setLamp_straps (s : State) (l : Fin 2) (x : LampLink) : (setLamp s l x).straps = s.straps := rfl
@[simp] theorem setLamp_port (s : State) (l : Fin 2) (x : LampLink) : (setLamp s l x).port = s.port := rfl
@[simp] theorem setLamp_wd (s : State) (l : Fin 2) (x : LampLink) : (setLamp s l x).wd = s.wd := rfl
@[simp] theorem setLamp_passed (s : State) (l : Fin 2) (x : LampLink) : (setLamp s l x).passed = s.passed := rfl
@[simp] theorem setLamp_channel (s : State) (l : Fin 2) (x : LampLink) : (setLamp s l x).channel = s.channel := rfl
@[simp] theorem setLamp_mem (s : State) (l : Fin 2) (x : LampLink) : (setLamp s l x).mem = s.mem := rfl
@[simp] theorem setLamp_cc (s : State) (l : Fin 2) (x : LampLink) : (setLamp s l x).cc = s.cc := rfl
@[simp] theorem setLamp_banks (s : State) (l : Fin 2) (x : LampLink) : (setLamp s l x).banks = s.banks := rfl
@[simp] theorem setLamp_map0 (s : State) (l : Fin 2) (x : LampLink) : (setLamp s l x).map0 = s.map0 := rfl
@[simp] theorem setLamp_map1 (s : State) (l : Fin 2) (x : LampLink) : (setLamp s l x).map1 = s.map1 := rfl
@[simp] theorem setLamp_nextMap (s : State) (l : Fin 2) (x : LampLink) : (setLamp s l x).nextMap = s.nextMap := rfl
@[simp] theorem setLamp_copy (s : State) (l : Fin 2) (x : LampLink) : (setLamp s l x).copy = s.copy := rfl
@[simp] theorem setLamp_ru (s : State) (l : Fin 2) (x : LampLink) : (setLamp s l x).ru = s.ru := rfl
@[simp] theorem setLamp_so (s : State) (l : Fin 2) (x : LampLink) : (setLamp s l x).so = s.so := rfl
@[simp] theorem setLamp_tx (s : State) (l : Fin 2) (x : LampLink) : (setLamp s l x).tx = s.tx := rfl
@[simp] theorem setLamp_lsv (s : State) (l : Fin 2) (x : LampLink) : (setLamp s l x).lsv = s.lsv := rfl
@[simp] theorem setLamp_tu (s : State) (l : Fin 2) (x : LampLink) : (setLamp s l x).tu = s.tu := rfl
@[simp] theorem setLamp_le (s : State) (l : Fin 2) (x : LampLink) : (setLamp s l x).le = s.le := rfl
@[simp] theorem setLamp_lamps (s : State) (l : Fin 2) (x : LampLink) : (setLamp s l x).lamps = put s.lamps l x := rfl
@[simp] theorem setLamp_rw (s : State) (l : Fin 2) (x : LampLink) : (setLamp s l x).rw = s.rw := rfl
@[simp] theorem setLamp_draws (s : State) (l : Fin 2) (x : LampLink) : (setLamp s l x).draws = s.draws := rfl
@[simp] theorem setLamp_pending (s : State) (l : Fin 2) (x : LampLink) : (setLamp s l x).pending = s.pending := rfl

/-! setShadow -/

@[simp] theorem setShadow_now (s : State) (w : CWord) (v : Word) : (setShadow s w v).now = s.now := rfl
@[simp] theorem setShadow_straps (s : State) (w : CWord) (v : Word) : (setShadow s w v).straps = s.straps := rfl
@[simp] theorem setShadow_port (s : State) (w : CWord) (v : Word) : (setShadow s w v).port = s.port := rfl
@[simp] theorem setShadow_wd (s : State) (w : CWord) (v : Word) : (setShadow s w v).wd = s.wd := rfl
@[simp] theorem setShadow_passed (s : State) (w : CWord) (v : Word) : (setShadow s w v).passed = s.passed := rfl
@[simp] theorem setShadow_channel (s : State) (w : CWord) (v : Word) : (setShadow s w v).channel = s.channel := rfl
@[simp] theorem setShadow_mem (s : State) (w : CWord) (v : Word) : (setShadow s w v).mem = s.mem := rfl
@[simp] theorem setShadow_cc (s : State) (w : CWord) (v : Word) : (setShadow s w v).cc = s.cc.setWord w v := rfl
@[simp] theorem setShadow_banks (s : State) (w : CWord) (v : Word) : (setShadow s w v).banks = s.banks := rfl
@[simp] theorem setShadow_map0 (s : State) (w : CWord) (v : Word) : (setShadow s w v).map0 = s.map0 := rfl
@[simp] theorem setShadow_map1 (s : State) (w : CWord) (v : Word) : (setShadow s w v).map1 = s.map1 := rfl
@[simp] theorem setShadow_nextMap (s : State) (w : CWord) (v : Word) : (setShadow s w v).nextMap = s.nextMap := rfl
@[simp] theorem setShadow_copy (s : State) (w : CWord) (v : Word) : (setShadow s w v).copy = s.copy := rfl
@[simp] theorem setShadow_ru (s : State) (w : CWord) (v : Word) : (setShadow s w v).ru = s.ru := rfl
@[simp] theorem setShadow_so (s : State) (w : CWord) (v : Word) : (setShadow s w v).so = s.so := rfl
@[simp] theorem setShadow_tx (s : State) (w : CWord) (v : Word) : (setShadow s w v).tx = s.tx := rfl
@[simp] theorem setShadow_lsv (s : State) (w : CWord) (v : Word) : (setShadow s w v).lsv = s.lsv := rfl
@[simp] theorem setShadow_tu (s : State) (w : CWord) (v : Word) : (setShadow s w v).tu = s.tu := rfl
@[simp] theorem setShadow_le (s : State) (w : CWord) (v : Word) : (setShadow s w v).le = s.le := rfl
@[simp] theorem setShadow_lamps (s : State) (w : CWord) (v : Word) : (setShadow s w v).lamps = s.lamps := rfl
@[simp] theorem setShadow_rw (s : State) (w : CWord) (v : Word) : (setShadow s w v).rw = s.rw := rfl
@[simp] theorem setShadow_draws (s : State) (w : CWord) (v : Word) : (setShadow s w v).draws = s.draws := rfl
@[simp] theorem setShadow_pending (s : State) (w : CWord) (v : Word) : (setShadow s w v).pending = s.pending := rfl

/-! setRu -/

@[simp] theorem setRu_now (s : State) (r : RefUnit) : (setRu s r).now = s.now := rfl
@[simp] theorem setRu_straps (s : State) (r : RefUnit) : (setRu s r).straps = s.straps := rfl
@[simp] theorem setRu_port (s : State) (r : RefUnit) : (setRu s r).port = s.port := rfl
@[simp] theorem setRu_wd (s : State) (r : RefUnit) : (setRu s r).wd = s.wd := rfl
@[simp] theorem setRu_passed (s : State) (r : RefUnit) : (setRu s r).passed = s.passed := rfl
@[simp] theorem setRu_channel (s : State) (r : RefUnit) : (setRu s r).channel = s.channel := rfl
@[simp] theorem setRu_mem (s : State) (r : RefUnit) : (setRu s r).mem = s.mem := rfl
@[simp] theorem setRu_cc (s : State) (r : RefUnit) : (setRu s r).cc = s.cc := rfl
@[simp] theorem setRu_banks (s : State) (r : RefUnit) : (setRu s r).banks = s.banks := rfl
@[simp] theorem setRu_map0 (s : State) (r : RefUnit) : (setRu s r).map0 = s.map0 := rfl
@[simp] theorem setRu_map1 (s : State) (r : RefUnit) : (setRu s r).map1 = s.map1 := rfl
@[simp] theorem setRu_nextMap (s : State) (r : RefUnit) : (setRu s r).nextMap = s.nextMap := rfl
@[simp] theorem setRu_copy (s : State) (r : RefUnit) : (setRu s r).copy = s.copy := rfl
@[simp] theorem setRu_ru (s : State) (r : RefUnit) : (setRu s r).ru = r := rfl
@[simp] theorem setRu_so (s : State) (r : RefUnit) : (setRu s r).so = s.so := rfl
@[simp] theorem setRu_tx (s : State) (r : RefUnit) : (setRu s r).tx = s.tx := rfl
@[simp] theorem setRu_lsv (s : State) (r : RefUnit) : (setRu s r).lsv = s.lsv := rfl
@[simp] theorem setRu_tu (s : State) (r : RefUnit) : (setRu s r).tu = s.tu := rfl
@[simp] theorem setRu_le (s : State) (r : RefUnit) : (setRu s r).le = s.le := rfl
@[simp] theorem setRu_lamps (s : State) (r : RefUnit) : (setRu s r).lamps = s.lamps := rfl
@[simp] theorem setRu_rw (s : State) (r : RefUnit) : (setRu s r).rw = s.rw := rfl
@[simp] theorem setRu_draws (s : State) (r : RefUnit) : (setRu s r).draws = s.draws := rfl
@[simp] theorem setRu_pending (s : State) (r : RefUnit) : (setRu s r).pending = s.pending := rfl

/-! placeWrite -/

@[simp] theorem placeWrite_now (s : State) (cells : List Host.Cell) : (placeWrite s cells).now = s.now := rfl
@[simp] theorem placeWrite_straps (s : State) (cells : List Host.Cell) : (placeWrite s cells).straps = s.straps := rfl
@[simp] theorem placeWrite_port (s : State) (cells : List Host.Cell) : (placeWrite s cells).port = s.port := rfl
@[simp] theorem placeWrite_wd (s : State) (cells : List Host.Cell) : (placeWrite s cells).wd = s.wd := rfl
@[simp] theorem placeWrite_passed (s : State) (cells : List Host.Cell) : (placeWrite s cells).passed = s.passed := rfl
@[simp] theorem placeWrite_channel (s : State) (cells : List Host.Cell) : (placeWrite s cells).channel = .write (Memory.undo s.mem cells) := rfl
@[simp] theorem placeWrite_mem (s : State) (cells : List Host.Cell) : (placeWrite s cells).mem = Memory.writeAll s.mem cells := rfl
@[simp] theorem placeWrite_cc (s : State) (cells : List Host.Cell) : (placeWrite s cells).cc = s.cc := rfl
@[simp] theorem placeWrite_banks (s : State) (cells : List Host.Cell) : (placeWrite s cells).banks = s.banks := rfl
@[simp] theorem placeWrite_map0 (s : State) (cells : List Host.Cell) : (placeWrite s cells).map0 = s.map0 := rfl
@[simp] theorem placeWrite_map1 (s : State) (cells : List Host.Cell) : (placeWrite s cells).map1 = s.map1 := rfl
@[simp] theorem placeWrite_nextMap (s : State) (cells : List Host.Cell) : (placeWrite s cells).nextMap = s.nextMap := rfl
@[simp] theorem placeWrite_copy (s : State) (cells : List Host.Cell) : (placeWrite s cells).copy = s.copy := rfl
@[simp] theorem placeWrite_ru (s : State) (cells : List Host.Cell) : (placeWrite s cells).ru = s.ru := rfl
@[simp] theorem placeWrite_so (s : State) (cells : List Host.Cell) : (placeWrite s cells).so = s.so := rfl
@[simp] theorem placeWrite_tx (s : State) (cells : List Host.Cell) : (placeWrite s cells).tx = s.tx := rfl
@[simp] theorem placeWrite_lsv (s : State) (cells : List Host.Cell) : (placeWrite s cells).lsv = s.lsv := rfl
@[simp] theorem placeWrite_tu (s : State) (cells : List Host.Cell) : (placeWrite s cells).tu = s.tu := rfl
@[simp] theorem placeWrite_le (s : State) (cells : List Host.Cell) : (placeWrite s cells).le = s.le := rfl
@[simp] theorem placeWrite_lamps (s : State) (cells : List Host.Cell) : (placeWrite s cells).lamps = s.lamps := rfl
@[simp] theorem placeWrite_rw (s : State) (cells : List Host.Cell) : (placeWrite s cells).rw = s.rw := rfl
@[simp] theorem placeWrite_draws (s : State) (cells : List Host.Cell) : (placeWrite s cells).draws = s.draws := rfl
@[simp] theorem placeWrite_pending (s : State) (cells : List Host.Cell) : (placeWrite s cells).pending = s.pending := rfl

/-! freeChannel -/

@[simp] theorem freeChannel_now (s : State) : (freeChannel s).now = s.now := rfl
@[simp] theorem freeChannel_straps (s : State) : (freeChannel s).straps = s.straps := rfl
@[simp] theorem freeChannel_port (s : State) : (freeChannel s).port = s.port := rfl
@[simp] theorem freeChannel_wd (s : State) : (freeChannel s).wd = s.wd := rfl
@[simp] theorem freeChannel_passed (s : State) : (freeChannel s).passed = s.passed := rfl
@[simp] theorem freeChannel_channel (s : State) : (freeChannel s).channel = .free := rfl
@[simp] theorem freeChannel_mem (s : State) : (freeChannel s).mem = s.mem := rfl
@[simp] theorem freeChannel_cc (s : State) : (freeChannel s).cc = s.cc := rfl
@[simp] theorem freeChannel_banks (s : State) : (freeChannel s).banks = s.banks := rfl
@[simp] theorem freeChannel_map0 (s : State) : (freeChannel s).map0 = s.map0 := rfl
@[simp] theorem freeChannel_map1 (s : State) : (freeChannel s).map1 = s.map1 := rfl
@[simp] theorem freeChannel_nextMap (s : State) : (freeChannel s).nextMap = s.nextMap := rfl
@[simp] theorem freeChannel_copy (s : State) : (freeChannel s).copy = s.copy := rfl
@[simp] theorem freeChannel_ru (s : State) : (freeChannel s).ru = s.ru := rfl
@[simp] theorem freeChannel_so (s : State) : (freeChannel s).so = s.so := rfl
@[simp] theorem freeChannel_tx (s : State) : (freeChannel s).tx = s.tx := rfl
@[simp] theorem freeChannel_lsv (s : State) : (freeChannel s).lsv = s.lsv := rfl
@[simp] theorem freeChannel_tu (s : State) : (freeChannel s).tu = s.tu := rfl
@[simp] theorem freeChannel_le (s : State) : (freeChannel s).le = s.le := rfl
@[simp] theorem freeChannel_lamps (s : State) : (freeChannel s).lamps = s.lamps := rfl
@[simp] theorem freeChannel_rw (s : State) : (freeChannel s).rw = s.rw := rfl
@[simp] theorem freeChannel_draws (s : State) : (freeChannel s).draws = s.draws := rfl
@[simp] theorem freeChannel_pending (s : State) : (freeChannel s).pending = s.pending := rfl

/-! spNext -/

@[simp] theorem spNext_now (s : State) (p : Phase) : (spNext s p).now = s.now := rfl
@[simp] theorem spNext_straps (s : State) (p : Phase) : (spNext s p).straps = s.straps := rfl
@[simp] theorem spNext_port (s : State) (p : Phase) : (spNext s p).port = { s.port with phase := p, claim := true } := rfl
@[simp] theorem spNext_wd (s : State) (p : Phase) : (spNext s p).wd = s.wd := rfl
@[simp] theorem spNext_passed (s : State) (p : Phase) : (spNext s p).passed = s.passed := rfl
@[simp] theorem spNext_channel (s : State) (p : Phase) : (spNext s p).channel = s.channel := rfl
@[simp] theorem spNext_mem (s : State) (p : Phase) : (spNext s p).mem = s.mem := rfl
@[simp] theorem spNext_cc (s : State) (p : Phase) : (spNext s p).cc = s.cc := rfl
@[simp] theorem spNext_banks (s : State) (p : Phase) : (spNext s p).banks = s.banks := rfl
@[simp] theorem spNext_map0 (s : State) (p : Phase) : (spNext s p).map0 = s.map0 := rfl
@[simp] theorem spNext_map1 (s : State) (p : Phase) : (spNext s p).map1 = s.map1 := rfl
@[simp] theorem spNext_nextMap (s : State) (p : Phase) : (spNext s p).nextMap = s.nextMap := rfl
@[simp] theorem spNext_copy (s : State) (p : Phase) : (spNext s p).copy = s.copy := rfl
@[simp] theorem spNext_ru (s : State) (p : Phase) : (spNext s p).ru = s.ru := rfl
@[simp] theorem spNext_so (s : State) (p : Phase) : (spNext s p).so = s.so := rfl
@[simp] theorem spNext_tx (s : State) (p : Phase) : (spNext s p).tx = s.tx := rfl
@[simp] theorem spNext_lsv (s : State) (p : Phase) : (spNext s p).lsv = s.lsv := rfl
@[simp] theorem spNext_tu (s : State) (p : Phase) : (spNext s p).tu = s.tu := rfl
@[simp] theorem spNext_le (s : State) (p : Phase) : (spNext s p).le = s.le := rfl
@[simp] theorem spNext_lamps (s : State) (p : Phase) : (spNext s p).lamps = s.lamps := rfl
@[simp] theorem spNext_rw (s : State) (p : Phase) : (spNext s p).rw = s.rw := rfl
@[simp] theorem spNext_draws (s : State) (p : Phase) : (spNext s p).draws = s.draws := rfl
@[simp] theorem spNext_pending (s : State) (p : Phase) : (spNext s p).pending = s.pending := rfl

/-! spGranted -/

@[simp] theorem spGranted_now (s : State) : (spGranted s).now = s.now := rfl
@[simp] theorem spGranted_straps (s : State) : (spGranted s).straps = s.straps := rfl
@[simp] theorem spGranted_port (s : State) : (spGranted s).port = { s.port with claim := false } := rfl
@[simp] theorem spGranted_wd (s : State) : (spGranted s).wd = s.wd := rfl
@[simp] theorem spGranted_passed (s : State) : (spGranted s).passed = s.passed := rfl
@[simp] theorem spGranted_channel (s : State) : (spGranted s).channel = s.channel := rfl
@[simp] theorem spGranted_mem (s : State) : (spGranted s).mem = s.mem := rfl
@[simp] theorem spGranted_cc (s : State) : (spGranted s).cc = s.cc := rfl
@[simp] theorem spGranted_banks (s : State) : (spGranted s).banks = s.banks := rfl
@[simp] theorem spGranted_map0 (s : State) : (spGranted s).map0 = s.map0 := rfl
@[simp] theorem spGranted_map1 (s : State) : (spGranted s).map1 = s.map1 := rfl
@[simp] theorem spGranted_nextMap (s : State) : (spGranted s).nextMap = s.nextMap := rfl
@[simp] theorem spGranted_copy (s : State) : (spGranted s).copy = s.copy := rfl
@[simp] theorem spGranted_ru (s : State) : (spGranted s).ru = s.ru := rfl
@[simp] theorem spGranted_so (s : State) : (spGranted s).so = s.so := rfl
@[simp] theorem spGranted_tx (s : State) : (spGranted s).tx = s.tx := rfl
@[simp] theorem spGranted_lsv (s : State) : (spGranted s).lsv = s.lsv := rfl
@[simp] theorem spGranted_tu (s : State) : (spGranted s).tu = s.tu := rfl
@[simp] theorem spGranted_le (s : State) : (spGranted s).le = s.le := rfl
@[simp] theorem spGranted_lamps (s : State) : (spGranted s).lamps = s.lamps := rfl
@[simp] theorem spGranted_rw (s : State) : (spGranted s).rw = s.rw := rfl
@[simp] theorem spGranted_draws (s : State) : (spGranted s).draws = s.draws := rfl
@[simp] theorem spGranted_pending (s : State) : (spGranted s).pending = s.pending := rfl

/-! respond -/

@[simp] theorem respond_now (s : State) (r : Response) : (respond s r).now = s.now := rfl
@[simp] theorem respond_straps (s : State) (r : Response) : (respond s r).straps = s.straps := rfl
@[simp] theorem respond_port (s : State) (r : Response) : (respond s r).port = { s.port with responses := s.port.responses ++ [r] } := rfl
@[simp] theorem respond_wd (s : State) (r : Response) : (respond s r).wd = s.wd := rfl
@[simp] theorem respond_passed (s : State) (r : Response) : (respond s r).passed = s.passed := rfl
@[simp] theorem respond_channel (s : State) (r : Response) : (respond s r).channel = s.channel := rfl
@[simp] theorem respond_mem (s : State) (r : Response) : (respond s r).mem = s.mem := rfl
@[simp] theorem respond_cc (s : State) (r : Response) : (respond s r).cc = s.cc := rfl
@[simp] theorem respond_banks (s : State) (r : Response) : (respond s r).banks = s.banks := rfl
@[simp] theorem respond_map0 (s : State) (r : Response) : (respond s r).map0 = s.map0 := rfl
@[simp] theorem respond_map1 (s : State) (r : Response) : (respond s r).map1 = s.map1 := rfl
@[simp] theorem respond_nextMap (s : State) (r : Response) : (respond s r).nextMap = s.nextMap := rfl
@[simp] theorem respond_copy (s : State) (r : Response) : (respond s r).copy = s.copy := rfl
@[simp] theorem respond_ru (s : State) (r : Response) : (respond s r).ru = s.ru := rfl
@[simp] theorem respond_so (s : State) (r : Response) : (respond s r).so = s.so := rfl
@[simp] theorem respond_tx (s : State) (r : Response) : (respond s r).tx = s.tx := rfl
@[simp] theorem respond_lsv (s : State) (r : Response) : (respond s r).lsv = s.lsv := rfl
@[simp] theorem respond_tu (s : State) (r : Response) : (respond s r).tu = s.tu := rfl
@[simp] theorem respond_le (s : State) (r : Response) : (respond s r).le = s.le := rfl
@[simp] theorem respond_lamps (s : State) (r : Response) : (respond s r).lamps = s.lamps := rfl
@[simp] theorem respond_rw (s : State) (r : Response) : (respond s r).rw = s.rw := rfl
@[simp] theorem respond_draws (s : State) (r : Response) : (respond s r).draws = s.draws := rfl
@[simp] theorem respond_pending (s : State) (r : Response) : (respond s r).pending = s.pending := rfl

/-! copyIdle -/

@[simp] theorem copyIdle_now (s : State) : (copyIdle s).now = s.now := rfl
@[simp] theorem copyIdle_straps (s : State) : (copyIdle s).straps = s.straps := rfl
@[simp] theorem copyIdle_port (s : State) : (copyIdle s).port = s.port := rfl
@[simp] theorem copyIdle_wd (s : State) : (copyIdle s).wd = s.wd := rfl
@[simp] theorem copyIdle_passed (s : State) : (copyIdle s).passed = { s.passed with copy := 0 } := rfl
@[simp] theorem copyIdle_channel (s : State) : (copyIdle s).channel = s.channel := rfl
@[simp] theorem copyIdle_mem (s : State) : (copyIdle s).mem = s.mem := rfl
@[simp] theorem copyIdle_cc (s : State) : (copyIdle s).cc = s.cc := rfl
@[simp] theorem copyIdle_banks (s : State) : (copyIdle s).banks = s.banks := rfl
@[simp] theorem copyIdle_map0 (s : State) : (copyIdle s).map0 = s.map0 := rfl
@[simp] theorem copyIdle_map1 (s : State) : (copyIdle s).map1 = s.map1 := rfl
@[simp] theorem copyIdle_nextMap (s : State) : (copyIdle s).nextMap = s.nextMap := rfl
@[simp] theorem copyIdle_copy (s : State) : (copyIdle s).copy = .idle := rfl
@[simp] theorem copyIdle_ru (s : State) : (copyIdle s).ru = s.ru := rfl
@[simp] theorem copyIdle_so (s : State) : (copyIdle s).so = s.so := rfl
@[simp] theorem copyIdle_tx (s : State) : (copyIdle s).tx = s.tx := rfl
@[simp] theorem copyIdle_lsv (s : State) : (copyIdle s).lsv = s.lsv := rfl
@[simp] theorem copyIdle_tu (s : State) : (copyIdle s).tu = s.tu := rfl
@[simp] theorem copyIdle_le (s : State) : (copyIdle s).le = s.le := rfl
@[simp] theorem copyIdle_lamps (s : State) : (copyIdle s).lamps = s.lamps := rfl
@[simp] theorem copyIdle_rw (s : State) : (copyIdle s).rw = s.rw := rfl
@[simp] theorem copyIdle_draws (s : State) : (copyIdle s).draws = s.draws := rfl
@[simp] theorem copyIdle_pending (s : State) : (copyIdle s).pending = s.pending := rfl

/-! raiseResend -/

@[simp] theorem raiseResend_now (s : State) : (raiseResend s).now = s.now := rfl
@[simp] theorem raiseResend_straps (s : State) : (raiseResend s).straps = s.straps := rfl
@[simp] theorem raiseResend_port (s : State) : (raiseResend s).port = s.port := rfl
@[simp] theorem raiseResend_wd (s : State) : (raiseResend s).wd = s.wd := rfl
@[simp] theorem raiseResend_passed (s : State) : (raiseResend s).passed = s.passed := rfl
@[simp] theorem raiseResend_channel (s : State) : (raiseResend s).channel = s.channel := rfl
@[simp] theorem raiseResend_mem (s : State) : (raiseResend s).mem = s.mem := rfl
@[simp] theorem raiseResend_cc (s : State) : (raiseResend s).cc = s.cc := rfl
@[simp] theorem raiseResend_banks (s : State) : (raiseResend s).banks = s.banks := rfl
@[simp] theorem raiseResend_map0 (s : State) : (raiseResend s).map0 = s.map0 := rfl
@[simp] theorem raiseResend_map1 (s : State) : (raiseResend s).map1 = s.map1 := rfl
@[simp] theorem raiseResend_nextMap (s : State) : (raiseResend s).nextMap = s.nextMap := rfl
@[simp] theorem raiseResend_copy (s : State) : (raiseResend s).copy = s.copy := rfl
@[simp] theorem raiseResend_ru (s : State) : (raiseResend s).ru = s.ru := rfl
@[simp] theorem raiseResend_so (s : State) : (raiseResend s).so = { s.so with resend := true } := rfl
@[simp] theorem raiseResend_tx (s : State) : (raiseResend s).tx = s.tx := rfl
@[simp] theorem raiseResend_lsv (s : State) : (raiseResend s).lsv = s.lsv := rfl
@[simp] theorem raiseResend_tu (s : State) : (raiseResend s).tu = s.tu := rfl
@[simp] theorem raiseResend_le (s : State) : (raiseResend s).le = s.le := rfl
@[simp] theorem raiseResend_lamps (s : State) : (raiseResend s).lamps = s.lamps := rfl
@[simp] theorem raiseResend_rw (s : State) : (raiseResend s).rw = s.rw := rfl
@[simp] theorem raiseResend_draws (s : State) : (raiseResend s).draws = s.draws := rfl
@[simp] theorem raiseResend_pending (s : State) : (raiseResend s).pending = s.pending := rfl

/-! giveLeave -/

@[simp] theorem giveLeave_now (s : State) (l : Fin 24) : (giveLeave s l).now = s.now := rfl
@[simp] theorem giveLeave_straps (s : State) (l : Fin 24) : (giveLeave s l).straps = s.straps := rfl
@[simp] theorem giveLeave_port (s : State) (l : Fin 24) : (giveLeave s l).port = s.port := rfl
@[simp] theorem giveLeave_wd (s : State) (l : Fin 24) : (giveLeave s l).wd = s.wd := rfl
@[simp] theorem giveLeave_passed (s : State) (l : Fin 24) : (giveLeave s l).passed = s.passed := rfl
@[simp] theorem giveLeave_channel (s : State) (l : Fin 24) : (giveLeave s l).channel = s.channel := rfl
@[simp] theorem giveLeave_mem (s : State) (l : Fin 24) : (giveLeave s l).mem = s.mem := rfl
@[simp] theorem giveLeave_cc (s : State) (l : Fin 24) : (giveLeave s l).cc = s.cc := rfl
@[simp] theorem giveLeave_banks (s : State) (l : Fin 24) : (giveLeave s l).banks = s.banks := rfl
@[simp] theorem giveLeave_map0 (s : State) (l : Fin 24) : (giveLeave s l).map0 = s.map0 := rfl
@[simp] theorem giveLeave_map1 (s : State) (l : Fin 24) : (giveLeave s l).map1 = s.map1 := rfl
@[simp] theorem giveLeave_nextMap (s : State) (l : Fin 24) : (giveLeave s l).nextMap = s.nextMap := rfl
@[simp] theorem giveLeave_copy (s : State) (l : Fin 24) : (giveLeave s l).copy = s.copy := rfl
@[simp] theorem giveLeave_ru (s : State) (l : Fin 24) : (giveLeave s l).ru = s.ru := rfl
@[simp] theorem giveLeave_so (s : State) (l : Fin 24) : (giveLeave s l).so = { s.so with leaves := s.so.leaves ++ [l] } := rfl
@[simp] theorem giveLeave_tx (s : State) (l : Fin 24) : (giveLeave s l).tx = s.tx := rfl
@[simp] theorem giveLeave_lsv (s : State) (l : Fin 24) : (giveLeave s l).lsv = s.lsv := rfl
@[simp] theorem giveLeave_tu (s : State) (l : Fin 24) : (giveLeave s l).tu = s.tu := rfl
@[simp] theorem giveLeave_le (s : State) (l : Fin 24) : (giveLeave s l).le = s.le := rfl
@[simp] theorem giveLeave_lamps (s : State) (l : Fin 24) : (giveLeave s l).lamps = s.lamps := rfl
@[simp] theorem giveLeave_rw (s : State) (l : Fin 24) : (giveLeave s l).rw = s.rw := rfl
@[simp] theorem giveLeave_draws (s : State) (l : Fin 24) : (giveLeave s l).draws = s.draws := rfl
@[simp] theorem giveLeave_pending (s : State) (l : Fin 24) : (giveLeave s l).pending = s.pending := rfl

/-! giveRecover -/

@[simp] theorem giveRecover_now (s : State) (l : Fin 24) : (giveRecover s l).now = s.now := rfl
@[simp] theorem giveRecover_straps (s : State) (l : Fin 24) : (giveRecover s l).straps = s.straps := rfl
@[simp] theorem giveRecover_port (s : State) (l : Fin 24) : (giveRecover s l).port = s.port := rfl
@[simp] theorem giveRecover_wd (s : State) (l : Fin 24) : (giveRecover s l).wd = s.wd := rfl
@[simp] theorem giveRecover_passed (s : State) (l : Fin 24) : (giveRecover s l).passed = s.passed := rfl
@[simp] theorem giveRecover_channel (s : State) (l : Fin 24) : (giveRecover s l).channel = s.channel := rfl
@[simp] theorem giveRecover_mem (s : State) (l : Fin 24) : (giveRecover s l).mem = s.mem := rfl
@[simp] theorem giveRecover_cc (s : State) (l : Fin 24) : (giveRecover s l).cc = s.cc := rfl
@[simp] theorem giveRecover_banks (s : State) (l : Fin 24) : (giveRecover s l).banks = s.banks := rfl
@[simp] theorem giveRecover_map0 (s : State) (l : Fin 24) : (giveRecover s l).map0 = s.map0 := rfl
@[simp] theorem giveRecover_map1 (s : State) (l : Fin 24) : (giveRecover s l).map1 = s.map1 := rfl
@[simp] theorem giveRecover_nextMap (s : State) (l : Fin 24) : (giveRecover s l).nextMap = s.nextMap := rfl
@[simp] theorem giveRecover_copy (s : State) (l : Fin 24) : (giveRecover s l).copy = s.copy := rfl
@[simp] theorem giveRecover_ru (s : State) (l : Fin 24) : (giveRecover s l).ru = s.ru := rfl
@[simp] theorem giveRecover_so (s : State) (l : Fin 24) : (giveRecover s l).so = { s.so with recovers := s.so.recovers ++ [l] } := rfl
@[simp] theorem giveRecover_tx (s : State) (l : Fin 24) : (giveRecover s l).tx = s.tx := rfl
@[simp] theorem giveRecover_lsv (s : State) (l : Fin 24) : (giveRecover s l).lsv = s.lsv := rfl
@[simp] theorem giveRecover_tu (s : State) (l : Fin 24) : (giveRecover s l).tu = s.tu := rfl
@[simp] theorem giveRecover_le (s : State) (l : Fin 24) : (giveRecover s l).le = s.le := rfl
@[simp] theorem giveRecover_lamps (s : State) (l : Fin 24) : (giveRecover s l).lamps = s.lamps := rfl
@[simp] theorem giveRecover_rw (s : State) (l : Fin 24) : (giveRecover s l).rw = s.rw := rfl
@[simp] theorem giveRecover_draws (s : State) (l : Fin 24) : (giveRecover s l).draws = s.draws := rfl
@[simp] theorem giveRecover_pending (s : State) (l : Fin 24) : (giveRecover s l).pending = s.pending := rfl

/-! giveGains -/

@[simp] theorem giveGains_now (s : State) (n : GainsNotice) : (giveGains s n).now = s.now := rfl
@[simp] theorem giveGains_straps (s : State) (n : GainsNotice) : (giveGains s n).straps = s.straps := rfl
@[simp] theorem giveGains_port (s : State) (n : GainsNotice) : (giveGains s n).port = s.port := rfl
@[simp] theorem giveGains_wd (s : State) (n : GainsNotice) : (giveGains s n).wd = s.wd := rfl
@[simp] theorem giveGains_passed (s : State) (n : GainsNotice) : (giveGains s n).passed = s.passed := rfl
@[simp] theorem giveGains_channel (s : State) (n : GainsNotice) : (giveGains s n).channel = s.channel := rfl
@[simp] theorem giveGains_mem (s : State) (n : GainsNotice) : (giveGains s n).mem = s.mem := rfl
@[simp] theorem giveGains_cc (s : State) (n : GainsNotice) : (giveGains s n).cc = s.cc := rfl
@[simp] theorem giveGains_banks (s : State) (n : GainsNotice) : (giveGains s n).banks = s.banks := rfl
@[simp] theorem giveGains_map0 (s : State) (n : GainsNotice) : (giveGains s n).map0 = s.map0 := rfl
@[simp] theorem giveGains_map1 (s : State) (n : GainsNotice) : (giveGains s n).map1 = s.map1 := rfl
@[simp] theorem giveGains_nextMap (s : State) (n : GainsNotice) : (giveGains s n).nextMap = s.nextMap := rfl
@[simp] theorem giveGains_copy (s : State) (n : GainsNotice) : (giveGains s n).copy = s.copy := rfl
@[simp] theorem giveGains_ru (s : State) (n : GainsNotice) : (giveGains s n).ru = s.ru := rfl
@[simp] theorem giveGains_so (s : State) (n : GainsNotice) : (giveGains s n).so = s.so := rfl
@[simp] theorem giveGains_tx (s : State) (n : GainsNotice) : (giveGains s n).tx = s.tx := rfl
@[simp] theorem giveGains_lsv (s : State) (n : GainsNotice) : (giveGains s n).lsv = s.lsv := rfl
@[simp] theorem giveGains_tu (s : State) (n : GainsNotice) : (giveGains s n).tu = s.tu := rfl
@[simp] theorem giveGains_le (s : State) (n : GainsNotice) : (giveGains s n).le = { s.le with gainNotices := s.le.gainNotices ++ [n] } := rfl
@[simp] theorem giveGains_lamps (s : State) (n : GainsNotice) : (giveGains s n).lamps = s.lamps := rfl
@[simp] theorem giveGains_rw (s : State) (n : GainsNotice) : (giveGains s n).rw = s.rw := rfl
@[simp] theorem giveGains_draws (s : State) (n : GainsNotice) : (giveGains s n).draws = s.draws := rfl
@[simp] theorem giveGains_pending (s : State) (n : GainsNotice) : (giveGains s n).pending = s.pending := rfl

/-! setShown -/

@[simp] theorem setShown_now (s : State) (k : Fin 4) : (setShown s k).now = s.now := rfl
@[simp] theorem setShown_straps (s : State) (k : Fin 4) : (setShown s k).straps = s.straps := rfl
@[simp] theorem setShown_port (s : State) (k : Fin 4) : (setShown s k).port = s.port := rfl
@[simp] theorem setShown_wd (s : State) (k : Fin 4) : (setShown s k).wd = s.wd := rfl
@[simp] theorem setShown_passed (s : State) (k : Fin 4) : (setShown s k).passed = s.passed := rfl
@[simp] theorem setShown_channel (s : State) (k : Fin 4) : (setShown s k).channel = s.channel := rfl
@[simp] theorem setShown_mem (s : State) (k : Fin 4) : (setShown s k).mem = s.mem := rfl
@[simp] theorem setShown_cc (s : State) (k : Fin 4) : (setShown s k).cc = s.cc := rfl
@[simp] theorem setShown_banks (s : State) (k : Fin 4) : (setShown s k).banks = put s.banks k { s.banks[k] with state := .shown } := rfl
@[simp] theorem setShown_map0 (s : State) (k : Fin 4) : (setShown s k).map0 = s.map0 := rfl
@[simp] theorem setShown_map1 (s : State) (k : Fin 4) : (setShown s k).map1 = s.map1 := rfl
@[simp] theorem setShown_nextMap (s : State) (k : Fin 4) : (setShown s k).nextMap = s.nextMap := rfl
@[simp] theorem setShown_copy (s : State) (k : Fin 4) : (setShown s k).copy = s.copy := rfl
@[simp] theorem setShown_ru (s : State) (k : Fin 4) : (setShown s k).ru = s.ru := rfl
@[simp] theorem setShown_so (s : State) (k : Fin 4) : (setShown s k).so = s.so := rfl
@[simp] theorem setShown_tx (s : State) (k : Fin 4) : (setShown s k).tx = s.tx := rfl
@[simp] theorem setShown_lsv (s : State) (k : Fin 4) : (setShown s k).lsv = s.lsv := rfl
@[simp] theorem setShown_tu (s : State) (k : Fin 4) : (setShown s k).tu = s.tu := rfl
@[simp] theorem setShown_le (s : State) (k : Fin 4) : (setShown s k).le = s.le := rfl
@[simp] theorem setShown_lamps (s : State) (k : Fin 4) : (setShown s k).lamps = s.lamps := rfl
@[simp] theorem setShown_rw (s : State) (k : Fin 4) : (setShown s k).rw = s.rw := rfl
@[simp] theorem setShown_draws (s : State) (k : Fin 4) : (setShown s k).draws = s.draws := rfl
@[simp] theorem setShown_pending (s : State) (k : Fin 4) : (setShown s k).pending = s.pending := rfl

/-! noteRate -/

@[simp] theorem noteRate_now (s : State) (l : Fin 24) : (noteRate s l).now = s.now := rfl
@[simp] theorem noteRate_straps (s : State) (l : Fin 24) : (noteRate s l).straps = s.straps := rfl
@[simp] theorem noteRate_port (s : State) (l : Fin 24) : (noteRate s l).port = s.port := rfl
@[simp] theorem noteRate_wd (s : State) (l : Fin 24) : (noteRate s l).wd = s.wd := rfl
@[simp] theorem noteRate_passed (s : State) (l : Fin 24) : (noteRate s l).passed = s.passed := rfl
@[simp] theorem noteRate_channel (s : State) (l : Fin 24) : (noteRate s l).channel = s.channel := rfl
@[simp] theorem noteRate_mem (s : State) (l : Fin 24) : (noteRate s l).mem = s.mem := rfl
@[simp] theorem noteRate_cc (s : State) (l : Fin 24) : (noteRate s l).cc = s.cc := rfl
@[simp] theorem noteRate_banks (s : State) (l : Fin 24) : (noteRate s l).banks = s.banks := rfl
@[simp] theorem noteRate_map0 (s : State) (l : Fin 24) : (noteRate s l).map0 = s.map0 := rfl
@[simp] theorem noteRate_map1 (s : State) (l : Fin 24) : (noteRate s l).map1 = s.map1 := rfl
@[simp] theorem noteRate_nextMap (s : State) (l : Fin 24) : (noteRate s l).nextMap = s.nextMap := rfl
@[simp] theorem noteRate_copy (s : State) (l : Fin 24) : (noteRate s l).copy = s.copy := rfl
@[simp] theorem noteRate_ru (s : State) (l : Fin 24) : (noteRate s l).ru = s.ru := rfl
@[simp] theorem noteRate_so (s : State) (l : Fin 24) : (noteRate s l).so = s.so := rfl
@[simp] theorem noteRate_tx (s : State) (l : Fin 24) : (noteRate s l).tx = s.tx := rfl
@[simp] theorem noteRate_lsv (s : State) (l : Fin 24) : (noteRate s l).lsv = { s.lsv with rates := put s.lsv.rates l (⟨s.now, field (s.cc.tiles[l])[0] 1 2⟩ :: s.lsv.rates[l]) } := rfl
@[simp] theorem noteRate_tu (s : State) (l : Fin 24) : (noteRate s l).tu = s.tu := rfl
@[simp] theorem noteRate_le (s : State) (l : Fin 24) : (noteRate s l).le = s.le := rfl
@[simp] theorem noteRate_lamps (s : State) (l : Fin 24) : (noteRate s l).lamps = s.lamps := rfl
@[simp] theorem noteRate_rw (s : State) (l : Fin 24) : (noteRate s l).rw = s.rw := rfl
@[simp] theorem noteRate_draws (s : State) (l : Fin 24) : (noteRate s l).draws = s.draws := rfl
@[simp] theorem noteRate_pending (s : State) (l : Fin 24) : (noteRate s l).pending = s.pending := rfl

/-! noteJoin -/

@[simp] theorem noteJoin_now (s : State) (n : Word) (l : Fin 24) : (noteJoin s n l).now = s.now := rfl
@[simp] theorem noteJoin_straps (s : State) (n : Word) (l : Fin 24) : (noteJoin s n l).straps = s.straps := rfl
@[simp] theorem noteJoin_port (s : State) (n : Word) (l : Fin 24) : (noteJoin s n l).port = s.port := rfl
@[simp] theorem noteJoin_wd (s : State) (n : Word) (l : Fin 24) : (noteJoin s n l).wd = s.wd := rfl
@[simp] theorem noteJoin_passed (s : State) (n : Word) (l : Fin 24) : (noteJoin s n l).passed = s.passed := rfl
@[simp] theorem noteJoin_channel (s : State) (n : Word) (l : Fin 24) : (noteJoin s n l).channel = s.channel := rfl
@[simp] theorem noteJoin_mem (s : State) (n : Word) (l : Fin 24) : (noteJoin s n l).mem = s.mem := rfl
@[simp] theorem noteJoin_cc (s : State) (n : Word) (l : Fin 24) : (noteJoin s n l).cc = s.cc := rfl
@[simp] theorem noteJoin_banks (s : State) (n : Word) (l : Fin 24) : (noteJoin s n l).banks = s.banks := rfl
@[simp] theorem noteJoin_map0 (s : State) (n : Word) (l : Fin 24) : (noteJoin s n l).map0 = s.map0 := rfl
@[simp] theorem noteJoin_map1 (s : State) (n : Word) (l : Fin 24) : (noteJoin s n l).map1 = s.map1 := rfl
@[simp] theorem noteJoin_nextMap (s : State) (n : Word) (l : Fin 24) : (noteJoin s n l).nextMap = s.nextMap := rfl
@[simp] theorem noteJoin_copy (s : State) (n : Word) (l : Fin 24) : (noteJoin s n l).copy = s.copy := rfl
@[simp] theorem noteJoin_ru (s : State) (n : Word) (l : Fin 24) : (noteJoin s n l).ru = s.ru := rfl
@[simp] theorem noteJoin_so (s : State) (n : Word) (l : Fin 24) : (noteJoin s n l).so = s.so := rfl
@[simp] theorem noteJoin_tx (s : State) (n : Word) (l : Fin 24) : (noteJoin s n l).tx = s.tx := rfl
@[simp] theorem noteJoin_lsv (s : State) (n : Word) (l : Fin 24) : (noteJoin s n l).lsv = { s.lsv with joined := put s.lsv.joined l (if s.lsv.frames.any (fun f => f.count == n) then some n else none) } := rfl
@[simp] theorem noteJoin_tu (s : State) (n : Word) (l : Fin 24) : (noteJoin s n l).tu = s.tu := rfl
@[simp] theorem noteJoin_le (s : State) (n : Word) (l : Fin 24) : (noteJoin s n l).le = s.le := rfl
@[simp] theorem noteJoin_lamps (s : State) (n : Word) (l : Fin 24) : (noteJoin s n l).lamps = s.lamps := rfl
@[simp] theorem noteJoin_rw (s : State) (n : Word) (l : Fin 24) : (noteJoin s n l).rw = s.rw := rfl
@[simp] theorem noteJoin_draws (s : State) (n : Word) (l : Fin 24) : (noteJoin s n l).draws = s.draws := rfl
@[simp] theorem noteJoin_pending (s : State) (n : Word) (l : Fin 24) : (noteJoin s n l).pending = s.pending := rfl

end Sys2Proof.Machine
end

