-- ==== Sys2Proof/Laws/Memory.lean ====
section
/-! SUPPORT. The laws of memory: a byte read after a write, and that every memory operation keeps the canonical form. -/

namespace Sys2Proof.Machine

/-! ### Reading after writing -/

/-- Memory listed from an address up reads as unlisted below it. -/
theorem Memory.read_below (m : Memory) : ∀ (lo a : Nat), Memory.risingFrom lo m = true → a < lo → Memory.read m a = Config.dramByte := by
  induction m with
  | nil => intro lo a _ _; rfl
  | cons c m ih =>
    intro lo a h ha
    obtain ⟨x, b⟩ := c
    simp only [Memory.risingFrom, Bool.and_eq_true, decide_eq_true_eq] at h
    have hx : x ≠ a := by omega
    simp only [Memory.read, hx, if_false]
    exact ih (x + 1) a h.2 (by omega)

/-- A write leaves every other address alone, whatever the list. -/
theorem Memory.read_write_ne (m : Memory) (a a' : Nat) (b : Byte) (h : a' ≠ a) :
    Memory.read (Memory.write m a b) a' = Memory.read m a' := by
  induction m with
  | nil =>
    by_cases hb : b = Config.dramByte
    · simp [Memory.write, hb]
    · simp [Memory.write, hb, Memory.read, Ne.symm h]
  | cons c m ih =>
    obtain ⟨x, y⟩ := c
    simp only [Memory.write]
    by_cases h1 : a < x
    · by_cases hb : b = Config.dramByte
      · simp [h1, hb]
      · simp [h1, hb, Memory.read, Ne.symm h]
    · by_cases h2 : a = x
      · subst h2
        by_cases hb : b = Config.dramByte
        · simp [hb, Memory.read, Ne.symm h]
        · simp [hb, Memory.read, Ne.symm h]
      · simp only [h1, h2, if_false, Memory.read]
        by_cases h3 : x = a'
        · simp [h3]
        · simp [h3, ih]

/-- A byte written is read back. -/
theorem Memory.read_write_same (m : Memory) (a : Nat) (b : Byte) :
    ∀ lo, Memory.risingFrom lo m = true → Memory.read (Memory.write m a b) a = b := by
  induction m with
  | nil =>
    intro lo _
    by_cases hb : b = Config.dramByte
    · simp [Memory.write, hb, Memory.read]
    · simp [Memory.write, hb, Memory.read]
  | cons c m ih =>
    intro lo h
    obtain ⟨x, y⟩ := c
    have hm : Memory.risingFrom (x + 1) m = true := by
      simp only [Memory.risingFrom, Bool.and_eq_true] at h; exact h.2
    simp only [Memory.write]
    by_cases h1 : a < x
    · by_cases hb : b = Config.dramByte
      · have hx : x ≠ a := by omega
        simp only [h1, hb, if_true, Memory.read, hx, if_false]
        exact Memory.read_below m (x + 1) a hm (by omega)
      · simp [h1, hb, Memory.read]
    · by_cases h2 : a = x
      · subst h2
        by_cases hb : b = Config.dramByte
        · simp only [hb, h1, if_true, if_false]
          exact Memory.read_below m (a + 1) a hm (by omega)
        · simp [hb, Memory.read]
      · have hx : x ≠ a := fun e => h2 e.symm
        simp only [h1, h2, if_false, Memory.read, hx]
        exact ih (x + 1) hm

/-- A set of writes leaves every address outside it alone. -/
theorem Memory.read_writeAll_outside (cells : List Host.Cell) (a : Nat) (h : ∀ c ∈ cells, c.1 ≠ a) :
    ∀ m : Memory, Memory.read (Memory.writeAll m cells) a = Memory.read m a := by
  induction cells with
  | nil => intro m; rfl
  | cons c cs ih =>
    intro m
    have h1 : a ≠ c.1 := fun e => h c (List.mem_cons_self ..) e.symm
    show Memory.read (Memory.writeAll (Memory.write m c.1 c.2) cs) a = _
    rw [ih (fun d hd => h d (List.mem_cons_of_mem _ hd)), Memory.read_write_ne m c.1 a c.2 h1]

/-! ### The canonical form -/

/-- A lower start is met by what meets a higher one. -/
theorem Memory.risingFrom_le (m : Memory) (lo lo' : Nat) (hle : lo ≤ lo') (h : Memory.risingFrom lo' m = true) :
    Memory.risingFrom lo m = true := by
  cases m with
  | nil => rfl
  | cons c m =>
    obtain ⟨x, y⟩ := c
    simp only [Memory.risingFrom, Bool.and_eq_true, decide_eq_true_eq] at h ⊢
    exact ⟨⟨by omega, h.1.2⟩, h.2⟩

/-- A write at or above the start keeps the form from the start. -/
theorem Memory.risingFrom_write (m : Memory) (a : Nat) (b : Byte) :
    ∀ lo, lo ≤ a → Memory.risingFrom lo m = true → Memory.risingFrom lo (Memory.write m a b) = true := by
  induction m with
  | nil =>
    intro lo hlo _
    by_cases hb : b = Config.dramByte
    · simp [Memory.write, hb, Memory.risingFrom]
    · simp [Memory.write, hb, Memory.risingFrom, hlo]
  | cons c m ih =>
    intro lo hlo h
    obtain ⟨x, y⟩ := c
    have h' := h
    simp only [Memory.risingFrom, Bool.and_eq_true, decide_eq_true_eq, bne_iff_ne, ne_eq] at h'
    simp only [Memory.write]
    by_cases h1 : a < x
    · by_cases hb : b = Config.dramByte
      · simp only [h1, hb, if_true]; exact h
      · simp only [h1, hb, if_true, if_false, Memory.risingFrom, Bool.and_eq_true, decide_eq_true_eq, bne_iff_ne, ne_eq,
          not_false_eq_true]
        exact ⟨⟨hlo, trivial⟩, ⟨by omega, h'.1.2⟩, h'.2⟩
    · by_cases h2 : a = x
      · subst h2
        by_cases hb : b = Config.dramByte
        · simp only [h1, hb, if_true, if_false]
          exact Memory.risingFrom_le m lo (a + 1) (by omega) h'.2
        · simp only [h1, hb, if_true, if_false, Memory.risingFrom, Bool.and_eq_true, decide_eq_true_eq, bne_iff_ne, ne_eq,
            not_false_eq_true]
          exact ⟨⟨hlo, trivial⟩, h'.2⟩
      · simp only [h1, h2, if_false, Memory.risingFrom, Bool.and_eq_true, decide_eq_true_eq, bne_iff_ne, ne_eq]
        exact ⟨h'.1, ih (x + 1) (by omega) h'.2⟩

/-- One write keeps the canonical form. -/
theorem Memory.wf_write (m : Memory) (a : Nat) (b : Byte) (h : Memory.wf m = true) : Memory.wf (Memory.write m a b) = true :=
  Memory.risingFrom_write m a b 0 (Nat.zero_le a) h

/-- A set of writes keeps the canonical form. -/
theorem Memory.wf_writeAll (cells : List Host.Cell) : ∀ m : Memory, Memory.wf m = true → Memory.wf (Memory.writeAll m cells) = true := by
  induction cells with
  | nil => intro m h; exact h
  | cons c cs ih => intro m h; exact ih _ (Memory.wf_write m c.1 c.2 h)

/-- A granted write keeps the canonical form of the part's memory. -/
theorem placeWrite_wf (s : State) (cells : List Host.Cell) (h : Memory.wf s.mem = true) :
    Memory.wf (placeWrite s cells).mem = true := Memory.wf_writeAll cells s.mem h

/-- What power-on reset leaves of memory is in canonical form. -/
theorem memoryAtReset_wf (s : State) (h : Memory.wf s.mem = true) : Memory.wf (memoryAtReset s) = true := by
  unfold memoryAtReset
  split
  · exact Memory.wf_writeAll _ s.mem h
  · exact h

/-- The memory of the state after reset lists nothing, and so is in canonical form. -/
theorem reset_memory_wf : Memory.wf State.reset.mem = true := rfl

end Sys2Proof.Machine
end

