-- ==== Sys2Proof/Laws/Ops.lean ====
section
/-! SUPPORT. One lemma for each shared operation that says once what it can do, for later proofs to cite in place of unfolding
it. -/

namespace Sys2Proof.Machine

/-! ### Report Writer -/

/-- A claim is raised only where none waits; nothing else changes. -/
theorem rwRaise_spec (s : State) :
    rwRaise s = { s with rw := { s.rw with claim := match s.rw.claim with
      | none => nextRwClaim s
      | some c => some c } } := by
  unfold rwRaise
  cases h : s.rw.claim with
  | none => simp
  | some c => simp only; rw [← h]

/-- Raising a claim changes the Report Writer alone. -/
theorem rwRaise_only (s : State) : rwRaise s = { s with rw := (rwRaise s).rw } := by
  rw [rwRaise_spec]

/-- Taking a report leaves the state as it is, or sets the lost flag, or queues the report's record and raises a claim. -/
theorem takeReport_cases (s : State) (r : Report) :
    takeReport s r = s
    ∨ takeReport s r = { s with rw := { s.rw with lost := true } }
    ∨ (s.cc.kindEnabled r.kind.code = true ∧ s.cc.ringCode ≠ 0 ∧ ringFull s = false ∧ s.rw.queue.length < 64
        ∧ takeReport s r = rwRaise { s with rw := { s.rw with
            queue := s.rw.queue ++ [recordOf s r], lost := false, alloc := (s.rw.alloc + 1) % s.cc.ringSize } }) := by
  unfold takeReport
  by_cases h1 : s.cc.kindEnabled r.kind.code = true
  · by_cases h2 : s.cc.ringCode = 0
    · left; simp [h2]
    · by_cases h3 : (ringFull s || decide (64 ≤ s.rw.queue.length)) = true
      · right; left; simp [h1, h2, h3]
      · right; right
        simp only [Bool.or_eq_true, decide_eq_true_eq, not_or, Nat.not_le, Bool.not_eq_true] at h3
        exact ⟨h1, h2, h3.1, h3.2, by simp [h1, h2, h3.1, Nat.not_le.mpr h3.2]⟩
  · left; simp [h1]

/-- Taking a report changes the Report Writer alone. -/
theorem takeReport_only (s : State) (r : Report) : takeReport s r = { s with rw := (takeReport s r).rw } := by
  rcases takeReport_cases s r with h | h | ⟨_, _, _, _, h⟩
  · rw [h]
  · rw [h]
  · rw [h, rwRaise_spec]

/-- Taking a report leaves the reports handed over as they are. -/
theorem takeReport_reports (s : State) (r : Report) : (takeReport s r).rw.reports = s.rw.reports := by
  rcases takeReport_cases s r with h | h | ⟨_, _, _, _, h⟩
  · rw [h]
  · rw [h]
  · rw [h, rwRaise_spec]

/-- Raising a claim does not look at the reports handed over. -/
theorem rwRaise_with_reports (s : State) (l : List Report) :
    rwRaise { s with rw := { s.rw with reports := l } } = { rwRaise s with rw := { (rwRaise s).rw with reports := l } } := by
  rw [rwRaise_spec, rwRaise_spec]; rfl

/-- Taking a report does not look at the reports handed over. -/
theorem takeReport_with_reports (s : State) (r : Report) (l : List Report) :
    takeReport { s with rw := { s.rw with reports := l } } r
      = { takeReport s r with rw := { (takeReport s r).rw with reports := l } } := by
  unfold takeReport ringFull recordOf
  simp only []
  split
  · rfl
  · split
    · rfl
    · split
      · rfl
      · rw [← rwRaise_with_reports]

/-- A ring restart sets the ring's fields to their values at reset, withdraws a record or index claim with its count, and raises
the claim of an outstanding part. -/
theorem ringRestart_only (s : State) :
    ringRestart s = { s with rw := (ringRestart s).rw, passed := (ringRestart s).passed } := by
  unfold ringRestart
  rw [rwRaise_spec]
  unfold withdrawRingClaim
  split <;> rfl

/-! ### Banks and maps -/

/-- The bank found for a condition meets it and is the lowest-numbered that does; with none found, no bank meets it. -/
theorem findBank_spec (s : State) (p : Bank → Bool) :
    (∀ k, findBank s p = some k → p s.banks[k] = true ∧ ∀ j : Fin 4, j < k → p s.banks[j] = false)
    ∧ (findBank s p = none → ∀ j : Fin 4, p s.banks[j] = false) := by
  unfold findBank
  refine ⟨fun k h => ⟨List.find?_some (p := fun k : Fin 4 => p s.banks[k]) h, fun j hj => ?_⟩,
    fun h j => by simpa using List.find?_eq_none.mp h j (List.mem_finRange j)⟩
  obtain ⟨_, i, hi, hk, before⟩ := List.find?_eq_some_iff_getElem.mp h
  have below : j.val < i := by rw [← hk] at hj; simpa [Fin.lt_def] using hj
  have := before j.val below
  simpa using this

/-- A released bank becomes RETIRING while it is the copy source of the FILLING or SEALING bank, else FREE with its record
cleared (R23). -/
theorem releaseBank_spec (s : State) (k : Fin 4) :
    releaseBank s k = setBank s k (if isCopySource s k = true then { s.banks[k] with state := .retiring } else (s.banks[k]).freed) := by
  unfold releaseBank
  split <;> rfl

/-- Showing the bank being sent changes bank records alone (R26). -/
theorem showSent_only (s : State) : (showSent s).1 = { s with banks := (showSent s).1.banks } := by
  unfold showSent leaveScreen
  split
  · dsimp only
    split
    · rfl
    · rw [releaseBank_spec]; rfl
  · split <;> rfl

/-- A RETIRING bank is freed; any other stays (R20). -/
theorem freeRetired_spec (s : State) (k : Fin 4) :
    freeRetired s k = s ∨ ((s.banks[k]).state = .retiring ∧ freeRetired s k = setBank s k (s.banks[k]).freed) := by
  unfold freeRetired
  split
  · next h => exact .inr ⟨h, rfl⟩
  · exact .inl rfl

/-- A SEALING bank becomes READY with its map released; any other stays (R21). -/
theorem sealComplete_spec (s : State) (k : Fin 4) :
    sealComplete s k = s
    ∨ ((s.banks[k]).state = .sealing ∧ sealComplete s k = releaseMap (setBank s k { s.banks[k] with state := .ready }) k) := by
  unfold sealComplete
  split
  · next h => exact .inr ⟨h, rfl⟩
  · exact .inl rfl

/-- Lending a map changes the two maps and which is next (R4). -/
theorem lendMap_only (s : State) (k : Fin 4) :
    lendMap s k = { s with map0 := (lendMap s k).map0, map1 := (lendMap s k).map1, nextMap := !s.nextMap } := by
  unfold lendMap
  cases h : s.nextMap <;> simp

/-- Setting a mark changes the map lent to the bank alone. -/
theorem setMark_only (s : State) (k : Fin 4) (seg : Nat) :
    setMark s k seg = { s with map0 := (setMark s k seg).map0, map1 := (setMark s k seg).map1 } := by
  unfold setMark
  split
  · rfl
  · split <;> rfl

/-- A segment marked before stays as it is; else its mark is set and the count rises by one (R5). -/
theorem markWritten_spec (s : State) (k : Fin 4) (seg : Nat) :
    (isMarked s k seg = true ∧ markWritten s k seg = s)
    ∨ (isMarked s k seg = false
        ∧ markWritten s k seg = setBank (setMark s k seg) k { s.banks[k] with written := (s.banks[k]).written + 1 }) := by
  unfold markWritten
  by_cases h : isMarked s k seg = true
  · exact .inl ⟨h, by simp [h]⟩
  · refine .inr ⟨by simpa using h, ?_⟩
    have hb : (setMark s k seg).banks = s.banks := by rw [setMark_only]
    simp [h, hb]

/-- A segment put into a list of marks is in it with the marks that were there. -/
theorem mem_insertMark (l : List Nat) (n q : Nat) : q ∈ insertMark l n ↔ q = n ∨ q ∈ l := by
  induction l with
  | nil => simp [insertMark]
  | cons m ms ih =>
    unfold insertMark
    by_cases h1 : n < m
    · simp [h1]
    · by_cases h2 : n = m
      · simp [h2]
      · simp only [h1, h2, if_false, List.mem_cons, ih]
        tauto

/-- The skip of marked segments stops at an unmarked one or at N, and everything it passed is marked (R18 step 1). -/
theorem skipMarked_spec (marks : List Nat) (n : Nat) : ∀ fuel p, n ≤ p + fuel → p ≤ n →
    p ≤ skipMarked marks n fuel p ∧ skipMarked marks n fuel p ≤ n
    ∧ (∀ q, p ≤ q → q < skipMarked marks n fuel p → marks.contains q = true)
    ∧ (skipMarked marks n fuel p < n → marks.contains (skipMarked marks n fuel p) = false) := by
  intro fuel
  induction fuel with
  | zero =>
    intro p h1 h2
    have hp : p = n := by omega
    subst hp
    exact ⟨Nat.le_refl _, Nat.le_refl _, fun q a b => absurd a (by simp [skipMarked] at b; omega), fun h => absurd h (Nat.lt_irrefl _)⟩
  | succ f ih =>
    intro p h1 h2
    unfold skipMarked
    by_cases h : p < n ∧ marks.contains p = true
    · simp only [h, and_self, if_true]
      obtain ⟨a, b, c, d⟩ := ih (p + 1) (by omega) (by omega)
      refine ⟨by omega, b, fun q hq hlt => ?_, d⟩
      rcases Nat.eq_or_lt_of_le hq with e | e
      · subst e; exact h.2
      · exact c q e hlt
    · rw [if_neg h]
      refine ⟨Nat.le_refl _, h2, fun q a b => absurd a (by omega), fun hlt => ?_⟩
      simp only [not_and, Bool.not_eq_true] at h
      exact h hlt

/-- Releasing a bank's map changes the two maps alone. -/
theorem releaseMap_only (s : State) (k : Fin 4) :
    releaseMap s k = { s with map0 := (releaseMap s k).map0, map1 := (releaseMap s k).map1 } := rfl

/-- Completing a seal changes the bank's record and the maps alone. -/
theorem sealComplete_only (s : State) (k : Fin 4) :
    sealComplete s k = { s with
      banks := (sealComplete s k).banks, map0 := (sealComplete s k).map0, map1 := (sealComplete s k).map1 } := by
  rcases sealComplete_spec s k with h | ⟨_, h⟩ <;> rw [h]
  rfl

/-- Freeing a RETIRING bank changes bank records alone. -/
theorem freeRetired_only (s : State) (k : Fin 4) : freeRetired s k = { s with banks := (freeRetired s k).banks } := by
  rcases freeRetired_spec s k with h | ⟨_, h⟩ <;> rw [h]
  rfl

/-- A copy that completes changes bank records, maps, the engine and the Copy count alone. -/
theorem copyComplete_only (s : State) (k : Fin 4) :
    copyComplete s k = { s with
      banks := (copyComplete s k).banks, map0 := (copyComplete s k).map0, map1 := (copyComplete s k).map1,
      copy := .idle, passed := { s.passed with copy := 0 } } := by
  unfold copyComplete
  dsimp only
  split
  · rw [sealComplete_only]; rfl
  · rw [sealComplete_only, freeRetired_only]; rfl

/-- The copy engine's advance changes bank records, maps, the engine and the Copy count alone. -/
theorem copyAdvance_only (s : State) (k : Fin 4) :
    copyAdvance s k = { s with
      banks := (copyAdvance s k).banks, map0 := (copyAdvance s k).map0, map1 := (copyAdvance s k).map1,
      copy := (copyAdvance s k).copy, passed := (copyAdvance s k).passed } := by
  unfold copyAdvance
  dsimp only
  split
  · rfl
  · rw [copyComplete_only]; rfl

/-- A bank that opens changes bank records, maps, the copy engine and the Copy count alone. -/
theorem openBank_only (s : State) (k : Fin 4) :
    openBank s k = { s with
      banks := (openBank s k).banks, map0 := (openBank s k).map0, map1 := (openBank s k).map1,
      nextMap := (openBank s k).nextMap, copy := (openBank s k).copy, passed := (openBank s k).passed } := by
  unfold openBank
  split
  · dsimp only
    rw [copyAdvance_only, lendMap_only]
    rfl
  · dsimp only
    rw [lendMap_only]
    rfl

/-- A write steered into a bank changes the port, the bank and the maps alone. -/
theorem steerWrite_only (s : State) (k : Fin 4) (seg : Nat) (lanes : List Lane) :
    steerWrite s k seg lanes = { s with
      port := (steerWrite s k seg lanes).port, banks := (steerWrite s k seg lanes).banks,
      map0 := (steerWrite s k seg lanes).map0, map1 := (steerWrite s k seg lanes).map1 } := by
  unfold steerWrite markWritten setMark setBank
  repeat' split
  all_goals rfl

/-- A canvas write taken changes the port, the banks, the maps, the copy engine and the Copy count alone. -/
theorem takeCanvasWrite_only (s : State) (seg : Nat) (lanes : List Lane) :
    takeCanvasWrite s seg lanes = { s with
      port := (takeCanvasWrite s seg lanes).port, banks := (takeCanvasWrite s seg lanes).banks,
      map0 := (takeCanvasWrite s seg lanes).map0, map1 := (takeCanvasWrite s seg lanes).map1,
      nextMap := (takeCanvasWrite s seg lanes).nextMap, copy := (takeCanvasWrite s seg lanes).copy,
      passed := (takeCanvasWrite s seg lanes).passed } := by
  unfold takeCanvasWrite
  split
  · rw [steerWrite_only]
  · split
    · rfl
    · split
      · rw [steerWrite_only, openBank_only]
      · rfl

/-! ### Scan-out and links -/

/-- The Scan-Out claim is raised if some link needs a fetch; nothing else changes (R106). -/
theorem soRaise_spec (s : State) : soRaise s = { s with so := { s.so with claim := s.so.claim || anyNeedsFetch s } } := by
  unfold soRaise
  cases h : anyNeedsFetch s <;> simp

/-- A waiting Scan-Out claim is withdrawn with its count at 0; else nothing changes (R50, R52). -/
theorem soWithdraw_spec (s : State) :
    soWithdraw s = { s with
      so := { s.so with claim := false }
      passed := if s.so.claim = true then { s.passed with scanOut := 0 } else s.passed } := by
  unfold soWithdraw
  cases h : s.so.claim
  · simp only [Bool.false_eq_true, if_false]; rw [← h]
  · simp

/-- Replacing a part changes the send record alone. -/
theorem setPart_spec (s : State) (l : Fin 24) (p : Option Part) :
    setPart s l p = { s with so := { s.so with send := s.so.send.map fun d => { d with parts := put d.parts l p } } } := by
  unfold setPart
  cases h : s.so.send with
  | none => simp only [Option.map_none]; rw [← h]
  | some d => rfl

/-- Placing a line changes the link's stage, its flags and its part, or nothing (R107, R113). -/
theorem placeLine_cases (s : State) (l : Fin 24) :
    placeLine s l = s
    ∨ ∃ d p, s.so.send = some d ∧ d.parts[l] = some p ∧ p.lineComplete = true ∧ (s.tx[l]).stage = none
        ∧ placeLine s l = { s with
            tx := put s.tx l { s.tx[l] with stage := some (p.packet d.tag) }
            so := { s.so with
              links := put s.so.links l { s.so.links[l] with primed := true, starved := false }
              send := some { d with parts := put d.parts l (some p.advance) } } } := by
  unfold placeLine
  cases h : s.so.send with
  | none => exact .inl rfl
  | some d =>
    dsimp only
    cases hp : d.parts[l] with
    | none => exact .inl rfl
    | some p =>
      dsimp only
      by_cases hc : p.lineComplete = true ∧ (s.tx[l]).stage.isNone = true
      · right
        refine ⟨d, p, rfl, hp, hc.1, Option.isNone_iff_eq_none.mp hc.2, ?_⟩
        rw [if_pos hc, setPart_spec]
        show ({ s with tx := _, so := { s.so with links := _, send := Option.map _ s.so.send } } : State) = _
        rw [h]
        rfl
      · left
        rw [if_neg hc]

/-- A change of link state changes the link's record, the notices to the Scan-Out Engine and the reports alone. -/
theorem changeLink_spec (s : State) (l : Fin 24) (r : LinkRecord) (cause : LinkCause) :
    changeLink s l r cause = { s with
      lsv := { s.lsv with links := put s.lsv.links l r }
      so := { s.so with
        leaves := s.so.leaves ++ (if (s.lsv.links[l]).state = .active ∧ r.state ≠ .active then [l] else [])
        recovers := s.so.recovers ++ (if r.state = .recover ∧ (s.lsv.links[l]).state ≠ .recover then [l] else []) }
      rw := (changeLink s l r cause).rw } := by
  unfold changeLink
  dsimp only
  split <;> split <;> (try simp only [List.append_nil]) <;> rfl

/-- A join changes a RECOVER link to ACTIVE with miss count 0 and notes the join, and any other link not at all (R126). -/
theorem joinLink_cases (count : Word) (s : State) (l : Fin 24) :
    joinLink count s l = s
    ∨ ((s.lsv.links[l]).state = .recover
        ∧ joinLink count s l
          = changeLink (noteJoin s count l) l { s.lsv.links[l] with state := .active, miss := 0 } .joined) := by
  unfold joinLink
  split
  · next h => exact .inr ⟨h, rfl⟩
  · exact .inl rfl

/-- The mark notices applied are those before the first whose frame event notice has not been taken, and the last of them gives
the expected tag (R123). -/
theorem applyMarks_spec (frames : List FrameNotice) (due : List MarkNotice) : ∀ (expected : Option Tag) (wait : List MarkNotice),
    (∀ m ∈ due, ∀ f ∈ frames, f.count ≠ m.count) → (∀ m, wait.head? = some m → ∃ f ∈ frames, f.count = m.count) →
    applyMarks frames expected (due ++ wait)
      = (match due.getLast? with | none => expected | some m => some m.mark.tag, wait) := by
  induction due with
  | nil =>
    intro expected wait _ hw
    cases wait with
    | nil => rfl
    | cons m rest =>
      obtain ⟨f, hf, hc⟩ := hw m rfl
      have h : frames.any (fun f => f.count == m.count) = true := List.any_eq_true.mpr ⟨f, hf, by simp [hc]⟩
      simp [applyMarks, h]
  | cons m rest ih =>
    intro expected wait hd hw
    have h : frames.any (fun f => f.count == m.count) = false := by
      simp only [List.any_eq_false, beq_iff_eq]
      exact fun f hf => hd m (by simp) f hf
    simp only [List.cons_append, applyMarks, h, Bool.false_eq_true, if_false]
    rw [ih (some m.mark.tag) wait (fun x hx => hd x (by simp [hx])) hw]
    cases rest with
    | nil => rfl
    | cons x xs => simp [List.getLast?_cons]

/-- A run is cut at the first idle line of more than one byte time: it and what follows are the bytes received, no two bytes of it
have such a line between them, and one stands between its last byte and the next (R200). -/
theorem cutRun_spec (rate : Nat) : ∀ (run rest : List RxByte), run ≠ [] →
    (∀ i a b, run[i]? = some a → run[i + 1]? = some b → idleBetween rate a b = false) →
    (∀ a b, run.getLast? = some a → rest.head? = some b → idleBetween rate a b = true) →
    cutRun rate (run ++ rest) = run := by
  intro run
  induction run with
  | nil => intro _ h; exact absurd rfl h
  | cons a tail ih =>
    intro rest _ hin hout
    cases tail with
    | nil =>
      cases rest with
      | nil => rfl
      | cons b r => simp [cutRun, hout a b rfl rfl]
    | cons b r =>
      have h := hin 0 a b rfl rfl
      have e := ih rest (by simp) (fun i x y hx hy => hin (i + 1) x y hx hy)
        (fun x y hx hy => hout x y (by rw [List.getLast?_cons_cons]; exact hx) hy)
      simp only [List.cons_append] at e ⊢
      simp [cutRun, h, e]

/-- A gains notice taken is the first that waits, of the kind asked for; else nothing changes (R160). -/
theorem takeGains_cases (kind : GainsKind) (s : State) :
    takeGains kind s = s
    ∨ ∃ g rest, s.le.gainNotices = ⟨kind, g⟩ :: rest
        ∧ takeGains kind s = retargetZones { s with le := { s.le with gainNotices := rest, gains := g } } := by
  unfold takeGains
  split
  · exact .inl rfl
  · next n rest h =>
    split
    · next hk =>
      subst hk
      exact .inr ⟨n.gains, rest, h, rfl⟩
    · exact .inl rfl

/-- A mark changes its link's transmitter alone. -/
theorem giveMark_only (m : Mark) (s : State) (l : Fin 24) : giveMark m s l = { s with tx := (giveMark m s l).tx } := by
  unfold giveMark beginPacket setTx
  repeat' split
  all_goals rfl

/-- The starvation test changes its link's flags and counts alone. -/
theorem starveTest_only (s : State) (l : Fin 24) :
    starveTest s l = { s with so := { s.so with links := (starveTest s l).so.links } } := by
  unfold starveTest setScanLink
  split
  · rfl
  · dsimp only
    split <;> rfl

/-- A packet that begins changes its link's shift alone. -/
theorem beginPacket_spec (s : State) (l : Fin 24) (p : Packet) :
    beginPacket s l p =
      { s with tx := put s.tx l { s.tx[l] with shift := some ⟨p, s.now + p.length * s.cc.linkByteTicks l⟩ } } := rfl

/-! ### Capture -/

/-- A word taken: the shadow becomes the adjusted value, and a difference from the merged value is reported (R185). -/
theorem takeWord_spec (s : State) (w : CWord) (m v : Word) :
    takeWord s w m v = if v = m then setShadow s w v else reportAdjusted (setShadow s w v) 0 w.offset v := rfl

/-- A word taken changes the shadow and the reports alone. -/
theorem takeWord_only (s : State) (w : CWord) (m v : Word) :
    takeWord s w m v = { s with cc := s.cc.setWord w v, rw := (takeWord s w m v).rw } := by
  rw [takeWord_spec]
  split <;> rfl

/-! ### The port and the arbiter -/

/-- The arbiter grants only a claim that waits (R50). -/
theorem arbiterChoice_waits (s : State) (c : Claimant) (h : arbiterChoice s = some c) : waiting s c = true := by
  unfold arbiterChoice at h
  dsimp only at h
  split at h
  · next hu =>
    simp only [Option.some.injEq] at h
    subst h
    simp only [Bool.and_eq_true] at hu
    exact hu.2
  · split at h
    · next c' hc =>
      simp only [Option.some.injEq] at h
      subst h
      have := List.find?_some hc
      simp only [Bool.and_eq_true] at this
      exact this.1
    · exact List.find?_some h

/-- Every claimant stands once in every order (R51). -/
theorem claimOrder_complete (code : Nat) (c : Claimant) : c ∈ claimOrder code := by
  unfold claimOrder
  repeat' split
  all_goals (cases c <;> simp)

/-- An access placed on the channel changes the channel, and for a write memory, alone (R49). -/
theorem place_only (s : State) (a : Access) (ch : List Byte → Channel) :
    place s a ch = { s with channel := (place s a ch).channel, mem := (place s a ch).mem } := by
  cases a <;> rfl

/-- A port that is not IDLE takes no request (R34). -/
theorem settlePort_busy (s : State) (h : s.port.phase ≠ .idle) : settlePort s = s := by
  unfold settlePort
  rw [if_neg h]

/-- With no request waiting the port takes none (R34). -/
theorem settlePort_none (s : State) (h : s.port.arrived = []) : settlePort s = s := by
  unfold settlePort
  split
  · rw [h]; rfl
  · rfl

end Sys2Proof.Machine
end

