-- ==== Sys2Proof/WellFormed.lean ====
section
/-! DEFINITION. What a sender may put into a command: the shape of a System Port request and of a received packet. -/

namespace Sys2Proof

/-- A WRITE carries sixteen byte enables per beat (spec/02 section 2.1). -/
def lanesFit (beats : Byte) (lanes : List Lane) : Bool := lanes.length == 16 * beats.toNat

/-- A READ carries no byte enables, a WRITE sixteen per beat (spec/02 section 2.1). -/
def Request.wellFormed (r : Request) : Bool :=
  match r.kind with
  | .read => r.lanes.isEmpty
  | .write => lanesFit r.beats r.lanes

/-- The largest canvas window is one bank of 64 MiB (R1, R37). -/
def canvasOffsetFits (offset : Word) : Bool := offset.toNat < 67108864

/-- An offset in the shielded range it names: the status block has 256 bytes (R36), the ring at most 4096 records (R186),
the bank region at most 256 MiB (R1). -/
def shieldOffsetFits (range : ShieldRange) (offset : Word) : Bool :=
  match range with
  | .statusBlock => offset.toNat < 256
  | .reportRing => offset.toNat < 65536
  | .bankRegion => offset.toNat < 268435456

/-- The start bits of received bytes arrive one after another. -/
def startsRise : List RxByte → Bool
  | [] => true
  | [_] => true
  | a :: b :: rest => a.start < b.start && startsRise (b :: rest)

/-- A command that a sender can make. The machine gives every command a meaning, well-formed or not. -/
def Instr.wellFormed : Instr → Bool
  | .canvasWrite _ o n ls => canvasOffsetFits o && lanesFit n ls
  | .canvasRead _ o _ => canvasOffsetFits o
  | .plainRequest _ r => r.wellFormed
  | .shieldedWrite _ g o n ls => shieldOffsetFits g o && lanesFit n ls
  | .settingWordWrite _ _ n ls => lanesFit n ls
  | .zoneEntryWrite _ _ ls => ls.length == 16
  | .fixtureEntryWrite _ _ ls => ls.length == 16
  | .returnPacketArrival _ bs => !bs.isEmpty && startsRise bs
  | .powerOnReset _ _ | .runEnableSet _ _ _ | .runEnableClear _ _ _ | .copyForwardEnableWrite _ _
  | .attentionEnableWrite _ _ | .canvasWidthWrite _ _ _ | .canvasHeightWrite _ _ _ | .canvasWindowBaseWrite _ _ _
  | .bankRegionBaseWrite _ _ _ | .ringBaseWrite _ _ _ | .ringSizeCodeWrite _ _ _ | .orderCodeWrite _ _ _
  | .commit _ _ _ | .wallReset _ _ _ | .linkClear _ _ _ | .referenceAcknowledge _ _ _ | .tallyAcknowledge _ _ _
  | .lookEditSelector _ _ _ | .ringConsumerIndex _ _ _ | .modeWriteInternal _ _ _ | .modeWriteExternal _ _ _
  | .acquireCountWrite _ _ | .nominalPeriodWrite _ _ _ | .toleranceWrite _ _ _ | .phaseOffsetWrite _ _ _
  | .holdoverLimitWrite _ _ _ | .tallyEdgeModesWrite _ _ _ | .tallyRankWrite _ _ _ | .cameraToLookWrite _ _ _
  | .wallGainWordWrite _ _ _ | .lightingGainsWordWrite _ _ _ | .lampLinkEnableSet _ _ _ _
  | .lampLinkEnableClear _ _ _ _ | .lampLinkSetupWrite _ _ _ _ | .missLimitWrite _ _ _ | .tileLinkEnableSet _ _ _ _
  | .tileLinkEnableClear _ _ _ _ | .tileHeaderWrite _ _ _ _ _ | .tileRecordWrite _ _ _ _ _ | .arbiterGrant _
  | .memoryWriteComplete | .readDataReturn _ | .preReadDataReturn | .segmentDataReturn | .frameEvent
  | .referencePulse _ | .pulseMissing | .scanOutFrameEvent | .leaveNotice | .recoverNotice | .wallGainNotice
  | .packetFinish _ | .linkCheck | .markNotice | .tallyEdge _ _ | .tallySample | .showNotice | .lookNotice
  | .lightingGainsNotice | .entryNotice | .fadeStep | .lampUnitFinish _ | .statusBlockRewrite | .discardFlagClear
  | .reportTaken _ | .copyReadDataReturn => true

end Sys2Proof
end

