-- ==== Sys2Proof/Tests/Slice0.lean ====
section
/-! SUPPORT. Tests on fixed values: the smoke test of WellFormed, a witness for the hypotheses of every statement, and the spec's
worked examples. -/

namespace Sys2Proof.Tests

section

-- One theorem at a time: each kernel evaluation waits for the theorems before it, and a thread for each would wait with it.
set_option Elab.async false

open Sys2Proof.Machine

/-! ### States -/

/-- The wall stopped, the start-up sweep done. -/
def idle : State :=
  { State.reset with port := { State.reset.port with phase := .idle, claim := false }, now := 1000 }

/-- A state with a control word in use. -/
def word (s : State) (w : CWord) (v : Word) : State := { s with cc := s.cc.setWord w v }

/-- A state with its commands waiting. -/
def queued (s : State) (l : List Instr) : State := { s with pending := l }

/-- The state an outcome gives, or the one given. -/
def after (s : State) : Result → State
  | .next t => t
  | _ => s

/-- The next state of a command. -/
def run (c : Instr) (s : State) : State := after s (exec c s)

/-- The next state of some commands, one after another. -/
def runAll (l : List Instr) (s : State) : State := l.foldl (fun s c => run c s) s

/-- An outcome is a next state. -/
def ran : Result → Bool
  | .next _ => true
  | _ => false

theorem exists_of_ran {o : Result} (h : ran o = true) : ∃ t, o = .next t := by
  cases o with
  | next t => exact ⟨t, rfl⟩
  | fault r => exact absurd h (by simp [ran])
  | refused r => exact absurd h (by simp [ran])

/-- A bank in a state, its copy done. -/
def inState (s : State) (k : Fin 4) (st : BankState) : State :=
  { s with banks := put s.banks k { s.banks[k] with state := st, progress := s.cc.segments } }

/-- The frame event notice of a count in LOCKED. -/
def frame (n : Word) : FrameNotice := ⟨n, .locked⟩

/-- Link 3's part of a send: one tile of two lines of 32 pixels, its first segment fetched. -/
def part3 : Machine.Part :=
  { tiles := [⟨0, 32, 4⟩], tw := 32, th := 2, trim := ⟨15, 15, 15⟩, tileAt := 0, line := 0, fetched := 1, assembly := [],
    complete := false }

/-- Settings for a running wall: run and copy-forward enabled, link 3 enabled with one tile, the ring on. -/
def settings : State :=
  word (word (word (word idle (.setting 0) 3) (.tile 3 0) 0x00082009) (.tile 3 2) 0x80040020) (.setting 7) 1

/-- The wall running: bank 0 SHOWN, 1 FILLING with two segments marked, 2 SENDING on link 3; the reference LOCKED; a fade on
fixture 5; a record and an index write waiting. -/
def wall : State :=
  let s := inState (inState (inState settings 0 .shown) 1 .filling) 2 .sending
  { s with
    now := 5000000
    banks := put s.banks 1 { s.banks[1] with written := 2 }
    map0 := ⟨some 1, [3, 7]⟩
    nextMap := true
    ru := ⟨.locked, some 4000000, 0, 0, [⟨4300000, false⟩], 2000010, some 2300000, some 6000500, false, 40⟩
    so := { s.so with
      send := some ⟨.first, 2, 1, put (Vector.replicate 24 none) 3 (some part3)⟩, tag := 1, claim := true,
      links := put s.so.links 3 ⟨true, true, 0, 1⟩ }
    tx := put s.tx 3 ⟨some ⟨.idle, 5000008⟩, none, none⟩
    lsv := { s.lsv with links := put s.lsv.links 3 ⟨.active, none, 2, false, false, false, false⟩, expected := some 0 }
    le := { s.le with fixtures := put s.le.fixtures 5 ⟨⟨1000, 0, 500⟩, ⟨200, 40, 500⟩, ⟨100, 5, 0⟩, 8, false⟩ }
    rw := { s.rw with alloc := 7, prod := 5, cons := 2, queue := [⟨6, 0, 0, 0, 0⟩], owed := some 6, claim := some .index } }

/-- The idle part in INTERNAL mode, before its first frame event. -/
def internal : State :=
  let s := word idle (.setting 9) 0x601
  { s with ru := { s.ru with lock := .internal, schedule := [⟨2001000, true⟩] } }

/-! ### The smoke test of WellFormed: what each check refuses -/

theorem smoke_canvas_write_offset : (Instr.canvasWrite 0 0x4000000 1 (List.replicate 16 none)).wellFormed = false := by decide
theorem smoke_canvas_write_lanes : (Instr.canvasWrite 0 0 2 (List.replicate 16 none)).wellFormed = false := by decide
theorem smoke_canvas_read_offset : (Instr.canvasRead 0 0x4000000 1).wellFormed = false := by decide
theorem smoke_read_with_enables : (Instr.plainRequest 0 ⟨.read, 0, 1, [none]⟩).wellFormed = false := by decide
theorem smoke_write_lanes : (Instr.plainRequest 0 ⟨.write, 0, 1, [none]⟩).wellFormed = false := by decide
theorem smoke_status_block_offset : (Instr.shieldedWrite 0 .statusBlock 256 1 (List.replicate 16 none)).wellFormed = false := by
  decide
theorem smoke_ring_offset : (Instr.shieldedWrite 0 .reportRing 65536 1 (List.replicate 16 none)).wellFormed = false := by decide
theorem smoke_region_offset : (Instr.shieldedWrite 0 .bankRegion 0x10000000 1 (List.replicate 16 none)).wellFormed = false := by
  decide
theorem smoke_shielded_lanes : (Instr.shieldedWrite 0 .statusBlock 0 1 []).wellFormed = false := by decide
theorem smoke_setting_lanes : (Instr.settingWordWrite 0 0x020 1 []).wellFormed = false := by decide
theorem smoke_zone_lanes : (Instr.zoneEntryWrite 0 0 (List.replicate 15 none)).wellFormed = false := by decide
theorem smoke_fixture_lanes : (Instr.fixtureEntryWrite 0 0 (List.replicate 17 none)).wellFormed = false := by decide
theorem smoke_empty_packet : (Instr.returnPacketArrival 0 []).wellFormed = false := by decide
theorem smoke_packet_order : (Instr.returnPacketArrival 0 [⟨5, 8, true⟩, ⟨5, 0, true⟩]).wellFormed = false := by decide
theorem smoke_accepts : (Instr.canvasWrite 0 0x3FFFFF0 1 (List.replicate 16 none)).wellFormed = true := by decide

/-- No row of the table has bits, so no word spells a command. -/
theorem test_no_word_spells_a_command : decodeTableWord 32 0xFFFFFFFF = none := by decide

/-! ### Witnesses: the machine and its invariants -/

theorem wall_settings : SettingsLaw wall.cc := by unfold SettingsLaw; decide +kernel
theorem wall_tables : TablesLaw wall.cc := by unfold TablesLaw; decide +kernel
theorem wall_reference : ReferenceLaw wall := by unfold ReferenceLaw; decide +kernel
theorem wall_placement : PlacementLaw wall := by unfold PlacementLaw; decide +kernel

/-- A part whose links have had rate code 0 alone, and no join noted, meets the law of link supervision by its links. -/
theorem supervision_of (s : State)
    (hr : ∀ l : Fin 24, s.lsv.rates[l] = [] ∧ field (s.cc.tiles[l])[0] 1 2 = 0 ∧ s.lsv.joined[l] = none)
    (h : s.cc.missLimit ≤ 15 ∧ ∀ l : Fin 24,
      ((s.lsv.links[l]).state = .off ↔ s.cc.linkEnable l = false)
      ∧ ((s.lsv.links[l]).state = .off ∨ (s.lsv.links[l]).inhibit = true → (s.lsv.links[l]).buffer = none)
      ∧ (s.lsv.links[l]).miss ≤ 15 ∧ ((s.lsv.links[l]).state = .active → (s.lsv.links[l]).miss < 15)) : SupervisionLaw s := by
  refine ⟨h.1, fun l => ⟨(h.2 l).1, (h.2 l).2.1, (h.2 l).2.2.1, (h.2 l).2.2.2, fun t _ => ?_, fun n hn => ?_⟩⟩
  · rw [(hr l).2.1]; unfold rateAt; rw [(hr l).1]; rfl
  · rw [(hr l).2.2] at hn; cases hn

theorem wall_supervision : SupervisionLaw wall := supervision_of wall (by decide +kernel) (by decide +kernel)
theorem wall_starve : StarveLaw wall := by unfold StarveLaw; decide +kernel
theorem wall_fade : FadeLaw wall := by unfold FadeLaw ComponentLaw; decide +kernel
theorem wall_bank : BankLaw wall := by unfold BankLaw AtMostOne; decide +kernel
theorem wall_map : MapLaw wall := ⟨wall_bank, by unfold lentTo; decide +kernel⟩

theorem wall_arbiter : ArbiterLaw wall := by
  refine ⟨by decide +kernel, ?_, ?_, ?_, ?_⟩
  · intro seg lanes h; cases h
  · intro d h; cases h
  · intro d h; cases h
  · intro c; cases c <;> decide +kernel

theorem wall_ring : RingLaw wall := by
  unfold RingLaw
  refine ⟨by decide +kernel, fun _ => ⟨by decide +kernel, by decide +kernel, by decide +kernel, ?_, ?_, by decide +kernel,
    by decide +kernel⟩, by decide +kernel, by decide +kernel, by decide +kernel⟩
  · intro i h
    match i, h with
    | 0, _ => exact (by decide +kernel : (6 : Nat) = (wall.rw.prod + bit wall.rw.owed.isSome + 0) % wall.cc.ringSize)
  · intro v hv; cases hv; decide +kernel

theorem internal_laws : SettingsLaw internal.cc ∧ ReferenceLaw internal := by
  unfold SettingsLaw ReferenceLaw; decide +kernel

theorem witness_StepRunsTheFrontCommand : (queued wall [.fadeStep, .frameEvent]).pending = .fadeStep :: [.frameEvent] := rfl

theorem witness_CommandsLeaveTheQueueAlone : ∃ t, exec .frameEvent (queued wall [.fadeStep]) = .next t :=
  exists_of_ran (by decide +kernel)

theorem witness_OnlyGrantedWritesChangeMemory :
    (∃ t, exec .frameEvent wall = .next t)
    ∧ (let s := { wall with so := { wall.so with claim := false } }
      arbiterChoice (atTime s 0) = some .report ∧ ∃ t, exec (.arbiterGrant 0) s = .next t)
    ∧ (∃ addrs, arbiterChoice (atTime wall 0) = some .scanOut ∧ accessOf (atTime wall 0) .scanOut = .read addrs)
    ∧ ∃ t, exec (.arbiterGrant 0) wall = .next t :=
  ⟨exists_of_ran (by decide +kernel), ⟨by decide +kernel, exists_of_ran (by decide +kernel)⟩,
    ⟨blockAddrs (wall.cc.segmentAddr 2 (4 * 120 + 3)), by decide +kernel, by decide +kernel⟩,
    exists_of_ran (by decide +kernel)⟩

/-- The wall with a byte listed in memory. -/
def stored : State := { wall with mem := [(0x20, 7)] }

theorem witness_StepKeepsMemoryCanonical :
    Memory.wf stored.mem = true ∧ ∃ t, step (queued stored [.arbiterGrant 0]) = .next t :=
  ⟨by decide, exists_of_ran (by decide +kernel)⟩

theorem witness_StepKeepsTheBankAndMapLaws :
    (let s := queued wall [.commit 0 15 9]
    BankLaw s ∧ MapLaw s ∧ ∃ t, step s = .next t)
    ∧ let s := queued wall [.scanOutFrameEvent]
    BankLaw s ∧ MapLaw s ∧ ∃ t, step s = .next t :=
  ⟨⟨wall_bank, wall_map, exists_of_ran (by decide +kernel)⟩, wall_bank, wall_map, exists_of_ran (by decide +kernel)⟩

theorem witness_StepKeepsTheRingLaw :
    let s := queued wall [.ringConsumerIndex 0 15 5]
    RingLaw s ∧ ∃ t, step s = .next t := ⟨wall_ring, exists_of_ran (by decide +kernel)⟩

theorem witness_StepKeepsTheControlWordsInRange :
    let s := queued wall [.tallyRankWrite 0 15 0]
    SettingsLaw s.cc ∧ TablesLaw s.cc ∧ PlacementLaw s ∧ ∃ t, step s = .next t :=
  ⟨wall_settings, wall_tables, wall_placement, exists_of_ran (by decide +kernel)⟩

theorem witness_StepKeepsTheReferenceLaw :
    let s := queued wall [.pulseMissing]
    ReferenceLaw s ∧ ∃ t, step s = .next t := ⟨wall_reference, exists_of_ran (by decide +kernel)⟩

theorem witness_StepKeepsTheLinkLaws :
    let s := queued wall [.packetFinish 3]
    SupervisionLaw s ∧ StarveLaw s ∧ ∃ t, step s = .next t := ⟨wall_supervision, wall_starve, exists_of_ran (by decide +kernel)⟩

theorem witness_StepKeepsTheFadeLaw :
    let s := queued { wall with le := { wall.le with frames := [frame 41] } } [.fadeStep]
    FadeLaw s ∧ ∃ t, step s = .next t := ⟨wall_fade, exists_of_ran (by decide +kernel)⟩

theorem witness_StepKeepsTheArbiterLaw :
    let s := queued wall [.arbiterGrant 0]
    ArbiterLaw s ∧ ∃ t, step s = .next t := ⟨wall_arbiter, exists_of_ran (by decide +kernel)⟩

theorem witness_PowerOnResetSetsEveryBlock :
    let s := { wall with channel := .write [(16, 7)] }
    s.channel = .write [(16, 7)] ∧ (17 : Nat) ∉ [((16 : Nat), (7 : Byte))].map (·.1) ∧ waiting s .sp = false := by decide +kernel

theorem witness_StrapsPlaceTheControlWindow :
    (∀ straps levels, Instr.frameEvent ≠ .powerOnReset straps levels) ∧ (∃ t, exec .frameEvent wall = .next t)
    ∧ WindowClear wall
    ∧ (wall.classOf 0x3FFFC200 = .shielded .statusBlock ∧ wall.classOf 0x3FFFC2FF = .shielded .statusBlock
      ∧ wall.classOf 0x3FFFC1FF = .control ∧ wall.classOf 0x3FFFC300 = .control ∧ wall.classOf 0x3FFFC000 = .control
      ∧ wall.classOf 0x3FFFFFFF = .control ∧ wall.classOf 0x3FFFBFFF = .plain ∧ wall.classOf 0x40000000 = .plain) := by
  refine ⟨?_, exists_of_ran (by decide +kernel), by unfold WindowClear; decide +kernel, by decide +kernel⟩
  intro _ _ h; cases h

/-! ### Witnesses: requests at the System Port -/

theorem idle_ready : PortReady idle := by unfold PortReady; decide +kernel
theorem settings_ready : PortReady settings := by unfold PortReady; decide +kernel
theorem wall_ready : PortReady wall := by unfold PortReady; decide +kernel

theorem witness_BadRequestsAreRefused :
    PortReady idle ∧ (1 : Nat) % 4 ≠ 0
    ∧ ((4 : Nat) % 4 = 0 ∧ ¬ (1 ≤ (0 : Nat) ∧ (0 : Nat) ≤ 4)) ∧ ((4 : Nat) % 4 = 0 ∧ ¬ (1 ≤ (5 : Nat) ∧ (5 : Nat) ≤ 4))
    ∧ ((0x34 : Nat) % 4 = 0 ∧ 1 ≤ (1 : Nat) ∧ (1 : Nat) ≤ 4 ∧ 64 < (0x34 : Nat) % 64 + 16 * 1) := ⟨idle_ready, by decide⟩

/-- Sixteen lanes, the last one enabled. -/
def lastLane : List Lane := List.replicate 15 none ++ [some 0xAB]

/-- A request that crosses no block, at the last beat of one. -/
def lastBeat (kind : ReqKind) (lanes : List Lane) : Request := ⟨kind, 0x20000030, 1, lanes⟩

theorem witness_PlainRequestsGoToTheirOwnAddresses :
    PortReady settings
    ∧ (let r := lastBeat .write (List.replicate 16 none)
      requestError r = none ∧ r.kind = .write ∧ reqCells r = [])
    ∧ (let r := lastBeat .read []
      requestError r = none ∧ r.kind = .read
      ∧ ∀ a ∈ reqAddrs r, settings.classOf a = .canvas → settings.cc.width * 4 * settings.cc.height ≤ a - settings.cc.canvasBase)
    ∧ (let r := lastBeat .write lastLane
      requestError r = none ∧ r.kind = .write ∧ reqCells r ≠ [] ∧ ∀ c ∈ reqCells r, settings.classOf c.1 = .plain)
    ∧ (let r := writeRequest (settings.cc.canvasBase + (8294400 : Word).toNat) 1 lastLane
      r.kind = .write ∧ requestError r = none ∧ reqCells r ≠ [] ∧ ∀ c ∈ reqCells r, settings.classOf c.1 = .canvas
        ∧ settings.cc.width * 4 * settings.cc.height ≤ c.1 - settings.cc.canvasBase) :=
  ⟨settings_ready, by decide +kernel⟩

/-- The ring placed off the block boundaries, so that a request of two beats takes its last record and plain bytes. -/
def oddRing (reported : Bool) : State :=
  let s := word (word idle (.setting 7) 1) (.setting 6) 0x0F000010
  { s with wd := { s.wd with reported := reported } }

theorem witness_ShieldedBytesAreDiscarded :
    (∀ reported, PortReady (oddRing reported))
    ∧ (∀ reported : Bool, let s := oddRing reported
      let r := writeRequest (s.shieldBase .statusBlock + (0xF0 : Word).toNat) 1 lastLane
      r.kind = .write ∧ requestError r = none ∧ (∀ c ∈ reqCells r, s.classOf c.1 = .plain ∨ (s.classOf c.1).isShielded = true)
      ∧ ((reqCells r).map (·.1)).find? (fun x => (s.classOf x).isShielded) = some 0x3FFFC2FF
      ∧ s.classOf 0x3FFFC2FF = .shielded .statusBlock ∧ (reqCells r).filter (fun c => (s.classOf c.1).isShielded = false) = [])
    ∧ (∀ reported : Bool, let s := oddRing reported
      let r := writeRequest (s.shieldBase .reportRing + (0xF0 : Word).toNat) 2 (lastLane ++ lastLane)
      r.kind = .write ∧ requestError r = none ∧ (∀ c ∈ reqCells r, s.classOf c.1 = .plain ∨ (s.classOf c.1).isShielded = true)
      ∧ ((reqCells r).map (·.1)).find? (fun x => (s.classOf x).isShielded) = some 0x0F00010F
      ∧ s.classOf 0x0F00010F = .shielded .reportRing ∧ (reqCells r).filter (fun c => (s.classOf c.1).isShielded = false) ≠ [])
    ∧ (let s := word settings (.setting 6) (8294400 - 240)
      let r := writeRequest (s.cc.canvasBase + (8294400 : Word).toNat) 2 (lastLane ++ lastLane)
      PortReady s ∧ r.kind = .write ∧ requestError r = none
      ∧ (∀ c ∈ reqCells r, (s.classOf c.1 = .canvas ∧ s.cc.width * 4 * s.cc.height ≤ c.1 - s.cc.canvasBase)
          ∨ (s.classOf c.1).isShielded = true)
      ∧ ((reqCells r).map (·.1)).find? (fun x => (s.classOf x).isShielded) = some 8294415
      ∧ s.classOf 8294415 = .shielded .reportRing
      ∧ (reqCells r).filter (fun c => (s.classOf c.1).isShielded = false) = [(8294431, 0xAB)]) := by
  unfold PortReady; decide +kernel

/-- The last beat of the canvas's last row. -/
def lastCanvas : Word := 8294384

/-- The wall with its ring moved over the last records' worth of the canvas's last row, so that a write of the last segment loses
some of its bytes, or all of them, to it. -/
def overlaid (reported : Bool) : State :=
  let s := word wall (.setting 6) (8294400 - 144)
  { s with wd := { s.wd with reported := reported } }

theorem witness_CanvasWritesGoToTheFillingBank :
    (∀ reported : Bool, let s := overlaid reported
    let r := writeRequest (s.cc.canvasBase + 8294256 - 16) 2 (lastLane ++ lastLane)
    PortReady s ∧ SettingsLaw s.cc ∧ requestError r = none ∧ reqCells r ≠ []
      ∧ (∀ c ∈ reqCells r, s.classOf c.1 = .canvas ∨ (s.classOf c.1).isShielded = true)
      ∧ ((reqCells r).map (·.1)).find? (fun x => (s.classOf x).isShielded) = some 8294271
      ∧ s.classOf 8294271 = .shielded .reportRing
      ∧ ((reqCells r).filter fun c => s.classOf c.1 = .canvas) = [(8294255, 0xAB)] ∧ bankIn s .filling = some 1
      ∧ ((reqCells (writeRequest (s.cc.canvasBase + 8294256) 1 lastLane)).filter fun c => s.classOf c.1 = .canvas) = [])
    ∧ (let s := settings
    let r := writeRequest (s.cc.canvasBase + lastCanvas.toNat) 1 lastLane
    PortReady s ∧ SettingsLaw s.cc ∧ s.cc.canvasBase + lastCanvas.toNat < Config.memoryBytes
      ∧ lastCanvas.toNat < s.cc.width * 4 * s.cc.height ∧ requestError r = none ∧ reqCells r ≠ []
      ∧ (∀ c ∈ reqCells r, s.classOf c.1 = .canvas)
      ∧ bankIn s .filling = none ∧ bankIn s .sealing = none ∧ bankIn s .free = some 0)
    ∧ PortReady wall ∧ SettingsLaw wall.cc ∧ wall.cc = settings.cc ∧ bankIn wall .filling = some 1
    ∧ let s := inState wall 1 .sealing
    PortReady s ∧ SettingsLaw s.cc ∧ bankIn s .filling = none ∧ bankIn s .sealing = some 1 :=
  ⟨by unfold PortReady SettingsLaw; decide +kernel, ⟨settings_ready, wall_settings, by decide +kernel⟩, wall_ready,
    wall_settings, rfl, by decide +kernel, wall_ready, wall_settings, by decide +kernel⟩

/-- Sixty-four lanes, all enabled. -/
def fullLanes : List Lane := List.replicate 64 (some 0x55)
/-- Sixty-four lanes, one enabled. -/
def partLanes : List Lane := some 0x55 :: List.replicate 63 none
/-- The wall with bank 1's copy from bank 2 at a segment. -/
def copying (p : Nat) : State :=
  { wall with banks := put wall.banks 1 { wall.banks[1] with src := some 2, progress := p }, copy := .wantRead }

theorem witness_RenderWritesTakeOneOfThreeWays :
    fullLanes.length = 64 ∧ partLanes.length = 64 ∧ lentTo wall 1 ∧ lentTo (copying 4) 1
    ∧ isMarked wall 1 7 = true ∧ isMarked wall 1 4 = false
    ∧ (∀ l ∈ fullLanes, l.isSome = true) ∧ ¬ (∀ l ∈ partLanes, l.isSome = true)
    ∧ (let s := copying 4
      isMarked s 1 4 = false ∧ (s.banks[1]).src = some 2 ∧ (s.banks[1]).progress < s.cc.segments ∧ (s.banks[1]).progress ≤ 4)
    ∧ (wall.banks[1]).src = none ∧ isMarked (copying 5) 1 4 = false ∧ 4 < ((copying 5).banks[1]).progress := by
  unfold lentTo; decide +kernel

theorem witness_OpeningABankStartsAFill :
    (0 < wall.cc.segments ∧ ¬ lentTo wall 3 ∧ wall.nextMap = true ∧ wall.cc.copyForward = true
      ∧ newestCommitted wall = some 2 ∧ bankSending wall = some 2 ∧ bankSending settings = none)
    ∧ (0 < settings.cc.segments ∧ ¬ lentTo settings 3 ∧ settings.nextMap = false ∧ newestCommitted settings = none)
    ∧ (0 < idle.cc.segments ∧ ¬ lentTo idle 0 ∧ (word idle (.setting 0) 1).cc.copyForward = false) := by
  unfold lentTo; decide +kernel

theorem witness_CanvasReadsAreRedirected :
    (let s := overlaid false
    let r : Request := ⟨.read, BitVec.ofNat 32 (8294256 - 16), 2, []⟩
    PortReady s ∧ requestError r = none ∧ r.kind = .read ∧ s.classOf (8294256 - 1) = .canvas
      ∧ s.classOf 8294256 = .shielded .reportRing)
    ∧ (let r : Request := ⟨.read, BitVec.ofNat 32 (settings.cc.canvasBase + lastCanvas.toNat), 1, []⟩
    PortReady settings ∧ SettingsLaw settings.cc ∧ settings.cc.canvasBase + lastCanvas.toNat < Config.memoryBytes
      ∧ lastCanvas.toNat < settings.cc.width * 4 * settings.cc.height ∧ requestError r = none
      ∧ ∀ a ∈ reqAddrs r, settings.classOf a = .canvas)
    ∧ (bankTarget wall = some 1 ∧ isMarked wall 1 3 = true ∧ isMarked wall 1 4 = false ∧ (wall.banks[1]).src = none)
    ∧ (let s := copying 4
      bankTarget s = some 1 ∧ isMarked s 1 4 = false ∧ (s.banks[1]).src = some 2
        ∧ (s.banks[1]).progress < s.cc.segments ∧ (s.banks[1]).progress ≤ 4)
    ∧ (bankTarget (copying 5) = some 1 ∧ isMarked (copying 5) 1 4 = false ∧ 4 < ((copying 5).banks[1]).progress)
    ∧ (let s := inState wall 1 .ready
      bankTarget s = none ∧ bankIn s .ready = some 1)
    ∧ (let s := inState wall 1 .free
      bankTarget s = none ∧ bankIn s .ready = none ∧ bankSending s = some 2)
    ∧ (let s := inState (inState wall 1 .free) 2 .free
      bankTarget s = none ∧ bankIn s .ready = none ∧ bankSending s = none ∧ bankIn s .shown = some 0)
    ∧ (bankTarget settings = none ∧ bankIn settings .ready = none ∧ bankSending settings = none
      ∧ bankIn settings .shown = none) :=
  ⟨⟨wall_ready, by decide +kernel⟩, ⟨settings_ready, wall_settings, by decide +kernel⟩, by decide +kernel⟩

/-! ### Witnesses: control words -/

theorem settings_control : ControlReady settings := by unfold ControlReady PortReady WindowClear; decide +kernel
theorem wall_control : ControlReady wall := by unfold ControlReady PortReady WindowClear; decide +kernel

theorem witness_ControlWordWritesAreCaptured :
    ControlReady settings
    ∧ wordCommand settings (.commit 5 8 0xFF000000) = some (5, .command 0, 8, 0xFF000000) ∧ (8 : BitVec 4) ≠ 0
    ∧ wordCommand settings (.acquireCountWrite 5 15) = some (5, .setting 9, 2, 0xF00) ∧ (2 : BitVec 4) ≠ 0
    ∧ wordCommand settings (.tileRecordWrite 5 23 15 1 7) = some (5, .tile 23 17, 1, 7) ∧ (1 : BitVec 4) ≠ 0 :=
  ⟨settings_control, by decide +kernel⟩

/-- Sixteen bytes of a control write have a state after their capture. -/
theorem quarter_exists (s : State) (cells : List Host.Cell) (off : Nat) : ∃ t, QuarterCaptured s t cells off := by
  by_cases h : ∃ f, wordAt off = some (.fixture f 0) ∧ anyLane (lanesAt cells (controlBase s.straps + off) 16) = true
  · obtain ⟨f, hf, ha⟩ := h
    refine ⟨entryWritten (captureWords s (wordsIn s.straps cells off)) f, fun g hg _ => ?_, fun hno => ?_⟩
    · rw [hf] at hg; cases hg; rfl
    · rw [hno f hf] at ha; cases ha
  · exact ⟨_, fun f hf ha => absurd ⟨f, hf, ha⟩ h, fun _ => rfl⟩

theorem witness_EntryAndOtherControlWritesAreCaptured :
    ControlReady settings ∧ lastLane.length = 16 ∧ anyLane lastLane = true
    ∧ (let r := writeRequest (controlBase settings.straps + (0x3FF0 : BitVec 14).toNat) 1 lastLane
      requestError r = none ∧ reqCells r ≠ []
      ∧ ∀ c ∈ reqCells r, settings.classOf c.1 = .control ∧ wordAt ((c.1 - controlBase settings.straps) / 4 * 4) = none)
    ∧ (1 : BitVec 4) ≠ 0
    ∧ (let s := atTime settings 0
      let cells := reqCells (writeRequest (controlBase settings.straps + (0x800 : BitVec 14).toNat) 2 (lastLane ++ lastLane))
      requestError (writeRequest (controlBase settings.straps + (0x800 : BitVec 14).toNat) 2 (lastLane ++ lastLane)) = none
        ∧ cells ≠ [] ∧ (∀ c ∈ cells, settings.classOf c.1 = .control)
        ∧ wordAt 0x800 = some (.fixture 0 0) ∧ wordAt 0x810 = some (.fixture 1 0)
        ∧ anyLane (lanesAt cells (controlBase s.straps + 0x810) 16) = true
        ∧ anyLane (lanesAt cells (controlBase s.straps + 0x820) 16) = false)
    ∧ ∃ s1 s2 s3 s4, let cells := reqCells (writeRequest (controlBase settings.straps + 0x800) 2 (lastLane ++ lastLane))
      QuarterCaptured (atTime settings 0) s1 cells 0x800 ∧ QuarterCaptured s1 s2 cells 0x810
        ∧ QuarterCaptured s2 s3 cells 0x820 ∧ QuarterCaptured s3 s4 cells 0x830 := by
  refine ⟨settings_control, by decide +kernel, by decide +kernel, by decide +kernel, by decide +kernel, by decide +kernel, ?_⟩
  obtain ⟨s1, h1⟩ := quarter_exists (atTime settings 0) _ 0x800
  obtain ⟨s2, h2⟩ := quarter_exists s1 _ 0x810
  obtain ⟨s3, h3⟩ := quarter_exists s2 _ 0x820
  obtain ⟨s4, h4⟩ := quarter_exists s3 _ 0x830
  exact ⟨s1, s2, s3, s4, h1, h2, h3, h4⟩

theorem witness_EditSelectorRefreshesTheBlock :
    ControlReady settings ∧ (1 : BitVec 4) ≠ 0 ∧ field settings.cc.command[5] 0 2 ≤ 2
    ∧ field (mergeWord settings.cc.command[5] (wordLanes 1 3)) 0 2 = 3
    ∧ field (mergeWord settings.cc.command[5] (wordLanes 1 0)) 0 2 = field settings.cc.command[5] 0 2
    ∧ (field (mergeWord settings.cc.command[5] (wordLanes 1 2)) 0 2 ≠ field settings.cc.command[5] 0 2
      ∧ Look.c.code = field (mergeWord settings.cc.command[5] (wordLanes 1 2)) 0 2) := ⟨settings_control, by decide +kernel⟩

theorem witness_CanvasWordsAreRunLocked :
    (1 ≤ (1 : Fin 20).val ∧ (1 : Fin 20).val ≤ 4 ∧ 1 ≤ (4 : Fin 20).val ∧ (4 : Fin 20).val ≤ 4)
    ∧ settings.cc.running = true ∧ idle.cc.running = false
    ∧ placementBad idle.straps (idle.cc.setWord (.setting 4) 0xFFF00000) = true
    ∧ placementBad idle.straps (idle.cc.setWord (.setting 4) 0x20000000) = false := by decide +kernel

theorem witness_RunEnableStartsAndStopsTheWall :
    (0x00000003 : Word).getLsbD 0 = wall.cc.running
    ∧ ((0x00000002 : Word).getLsbD 0 = false ∧ wall.cc.running = true)
    ∧ ((0x00000001 : Word).getLsbD 0 = true ∧ idle.cc.running = false ∧ rangesOverlap idle.straps idle.cc = false)
    ∧ (let s := word idle (.setting 3) 0x10000000
      s.cc.running = false ∧ rangesOverlap s.straps s.cc = true) := by decide +kernel

theorem witness_RingWordsRestartTheRing :
    ((6 : Fin 20).val = 6 ∧ (7 : Fin 20).val = 7)
    ∧ placementBad wall.straps (wall.cc.setWord (.setting 6) 0xFFFFFFF0) = true
    ∧ placementBad wall.straps (wall.cc.setWord (.setting 6) 0xFFFFFF00) = false
    ∧ wall.rw.claim = some .index ∧ idle.rw.claim = none
    ∧ (∀ j : Fin 4, wall.rw.claim ≠ some (.part j))
    ∧ { wall with rw := { wall.rw with claim := some (.part 3) } }.rw.claim = some (.part 3) := by decide +kernel

/-- The wall with bank 3 READY, its FILLING bank copying from it or from none. -/
def readied (src : Option (Fin 4)) : State :=
  let s := inState wall 3 .ready
  { s with banks := put s.banks 1 { s.banks[1] with src := src } }

theorem idle_bank : BankLaw idle := by unfold BankLaw AtMostOne; decide +kernel
theorem readied_source_bank : BankLaw (readied (some 3)) := by unfold BankLaw AtMostOne; decide +kernel
theorem readied_bank : BankLaw (readied none) := by unfold BankLaw AtMostOne; decide +kernel

theorem witness_CommitClosesTheFill :
    (BankLaw idle ∧ idle.cc.running = false)
    ∧ (BankLaw settings ∧ settings.cc.running = true ∧ bankIn settings .filling = none)
    ∧ (let s := readied (some 3)
      BankLaw s ∧ s.cc.running = true ∧ bankIn s .filling = some 1 ∧ (s.banks[3]).state = .ready
        ∧ (s.banks[1]).src = some 3)
    ∧ let s := readied none
    BankLaw s ∧ s.cc.running = true ∧ bankIn s .filling = some 1 ∧ (s.banks[3]).state = .ready ∧ (s.banks[1]).src = none
      ∧ (s.banks[1]).written < s.cc.segments :=
  ⟨⟨idle_bank, by decide +kernel⟩, ⟨idle_bank, by decide +kernel⟩, ⟨readied_source_bank, by decide +kernel⟩, readied_bank,
    by decide +kernel⟩

theorem witness_WallResetEmptiesTheWall :
    { wall with channel := .copyRead [1] false }.channel = .copyRead [1] false
    ∧ (∀ data d, { wall with channel := .preRead [1] }.channel ≠ .copyRead data d)
    ∧ (∀ l data d, { wall with channel := .preRead [1] }.channel ≠ .segmentRead l data d)
    ∧ { wall with channel := .segmentRead 3 [1] false }.channel = .segmentRead 3 [1] false :=
  ⟨rfl, nofun, nofun, rfl⟩

theorem idle_ring : RingLaw idle := by
  unfold RingLaw
  refine ⟨by decide +kernel, fun h => absurd h (by decide +kernel), by decide +kernel, by decide +kernel, by decide +kernel⟩

theorem witness_ConsumerIndexStaysBehindTheProducer :
    (RingLaw idle ∧ idle.cc.ringSize = 0 ∧ field 0 0 12 = 0 ∧ field 1 0 12 ≠ 0)
    ∧ RingLaw wall ∧ 0 < wall.cc.ringSize
    ∧ (field 5 0 12 < wall.cc.ringSize
      ∧ (((field 5 0 12 : Nat) : Int) - wall.rw.cons) % (wall.cc.ringSize : Int)
        ≤ ((wall.rw.prod : Int) - wall.rw.cons) % (wall.cc.ringSize : Int))
    ∧ wall.cc.ringSize ≤ field 16 0 12
    ∧ ((wall.rw.prod : Int) - wall.rw.cons) % (wall.cc.ringSize : Int)
        < (((field 6 0 12 : Nat) : Int) - wall.rw.cons) % (wall.cc.ringSize : Int) :=
  ⟨⟨idle_ring, by decide +kernel⟩, wall_ring, by decide +kernel⟩

/-- `internal` after a frame event. -/
def internalRuns : State := { internal with ru := { internal.ru with lastFrame := some 500, schedule := [⟨2000500, true⟩] } }
/-- The idle part in ACQUIRE with a schedule and a last frame event. -/
def acquiring (schedule : List Sched) (last : Option Nat) : State :=
  { idle with ru := { idle.ru with schedule := schedule, lastFrame := last } }

theorem acquiring_laws (schedule : List Sched) (last : Option Nat)
    (h : (decide (schedule.Pairwise fun a b => a.time ≤ b.time) && decide ((freeRuns schedule).length ≤ 1)) = true) :
    SettingsLaw (acquiring schedule last).cc ∧ ReferenceLaw (acquiring schedule last) := by
  have h0 : SettingsLaw idle.cc := by unfold SettingsLaw; decide +kernel
  simp only [Bool.and_eq_true, decide_eq_true_eq] at h
  refine ⟨h0, h.1, h.2, ?_, ?_, ?_, ?_, ?_, (by decide : 0 ≤ 15),
    (by decide +kernel : idle.cc.acquireCount ≤ 15)⟩
  · intro x; cases x
  · intro x; rcases x with x | x | x <;> cases x
  · constructor <;> intro x <;> cases x
  · constructor
    · intro x; cases x
    · intro x; exact absurd x (by decide +kernel : ¬ idle.cc.modeInternal = true)
  · intro x; cases x

theorem witness_ReferenceSettingsReschedule :
    (SettingsLaw wall.cc ∧ ReferenceLaw wall ∧ (0x600 : Word).getLsbD 0 = wall.cc.modeInternal
      ∧ (0x601 : Word).getLsbD 0 = true ∧ wall.cc.modeInternal = false ∧ wall.ru.lastFrame = some 2300000)
    ∧ (SettingsLaw internal.cc ∧ ReferenceLaw internal ∧ internal.cc.modeInternal = true ∧ internal.ru.lastFrame = none
      ∧ (takenWith internal (.setting 10) 400000 400000).cc.period ≠ internal.cc.period
      ∧ (takenWith internal (.setting 10) 2000000 2000000).cc.period = internal.cc.period
      ∧ (takenWith internal (.setting 10) 2000000 2000000).cc.tolerance = internal.cc.tolerance)
    ∧ (SettingsLaw internalRuns.cc ∧ ReferenceLaw internalRuns ∧ internalRuns.cc.modeInternal = true
      ∧ internalRuns.ru.lastFrame = some 500)
    ∧ ((takenWith wall (.setting 11) 1 1).cc.tolerance ≠ wall.cc.tolerance ∧ freeRuns wall.ru.schedule = []
      ∧ wall.ru.schedule.getLast? = some ⟨4300000, false⟩)
    ∧ (let s := acquiring [⟨900, true⟩] (some 800)
      SettingsLaw s.cc ∧ ReferenceLaw s ∧ s.cc.modeInternal = false ∧ freeRuns s.ru.schedule ≠ [])
    ∧ (let s := acquiring [] (some 800)
      SettingsLaw s.cc ∧ ReferenceLaw s ∧ s.ru.schedule = [] ∧ s.ru.lastFrame = some 800)
    ∧ (let s := acquiring [] none
      SettingsLaw s.cc ∧ ReferenceLaw s ∧ s.ru.schedule = [] ∧ s.ru.lastFrame = none) := by
  have h : SettingsLaw internalRuns.cc ∧ ReferenceLaw internalRuns := by unfold SettingsLaw ReferenceLaw; decide +kernel
  refine ⟨⟨wall_settings, wall_reference, by decide +kernel⟩, ⟨internal_laws.1, internal_laws.2, by decide +kernel⟩,
    ⟨h.1, h.2, by decide +kernel⟩, by decide +kernel, ?_, ?_, ?_⟩
  · exact ⟨(acquiring_laws _ _ rfl).1, (acquiring_laws _ _ rfl).2, by decide +kernel⟩
  · exact ⟨(acquiring_laws _ _ rfl).1, (acquiring_laws _ _ rfl).2, rfl, rfl⟩
  · exact ⟨(acquiring_laws _ _ rfl).1, (acquiring_laws _ _ rfl).2, rfl, rfl⟩

theorem witness_TileWordsAreAdjustedAndAskForAResend :
    (0x00082009 : Word).getLsbD 0 = wall.cc.linkEnable 3
    ∧ (2 ≤ (2 : Fin 32).val ∧ (2 : Fin 32).val < 18) ∧ (2 ≤ (17 : Fin 32).val ∧ (17 : Fin 32).val < 18)
    ∧ 18 ≤ (18 : Fin 32).val ∧ 18 ≤ (31 : Fin 32).val := by decide +kernel

theorem idle_supervision : SupervisionLaw idle := supervision_of idle (by decide +kernel) (by decide +kernel)

/-- The wall with link 3's enable cleared, its leave notice not yet taken and its shift run empty. -/
def silenced : State :=
  let s := word wall (.tile 3 0) 0x00082008
  { s with
    tx := put s.tx 3 ⟨none, none, none⟩
    so := { s.so with leaves := [3], links := put s.so.links 3 ⟨true, false, 0, 1⟩ }
    lsv := { s.lsv with links := put s.lsv.links 3 ⟨.off, none, 2, false, false, false, false⟩ } }

theorem witness_LinkEnableActsOnLinkAndTransmitter :
    (SupervisionLaw idle ∧ (1 : Word).getLsbD 0 ≠ idle.cc.linkEnable 23 ∧ (1 : Word).getLsbD 0 = true
      ∧ (idle.tx[(23 : Fin 24)]).shift = none ∧ partOf idle 23 = none)
    ∧ (SupervisionLaw wall ∧ (0 : Word).getLsbD 0 ≠ wall.cc.linkEnable 3 ∧ (0 : Word).getLsbD 0 = false
      ∧ (wall.lsv.links[(3 : Fin 24)]).state = .active)
    ∧ (SupervisionLaw silenced ∧ (1 : Word).getLsbD 0 ≠ silenced.cc.linkEnable 3 ∧ (1 : Word).getLsbD 0 = true
      ∧ (silenced.tx[(3 : Fin 24)]).shift = none ∧ (silenced.tx[(3 : Fin 24)]).stage = none
      ∧ (silenced.so.links[(3 : Fin 24)]).primed = true ∧ (silenced.so.links[(3 : Fin 24)]).starved = false
      ∧ partOf silenced 3 = some part3 ∧ part3.complete = false) :=
  ⟨⟨idle_supervision, by decide +kernel⟩, ⟨wall_supervision, by decide +kernel⟩,
    supervision_of silenced (by decide +kernel) (by decide +kernel), by decide +kernel⟩

theorem witness_LampZoneAndFixtureWordsAreAdjusted :
    (0x63020000 : Word).getLsbD 0 = idle.cc.lampEnable 1 ∧ (0x63020001 : Word).getLsbD 0 ≠ idle.cc.lampEnable 1
    ∧ (idle.lamps[(1 : Fin 2)]).shift = .empty := by decide +kernel

/-! ### Witnesses: the memory channel -/

/-- The wall with no link starved and the order code 4 in use; one claimant aged or none. -/
def claims (passed : Passed) : State :=
  let s := word wall (.setting 5) 4
  { s with so := { s.so with links := put s.so.links 3 ⟨true, false, 0, 0⟩ }, copy := .wantRead, passed := passed }

theorem witness_ArbiterGrantsTheFirstClaimInOrder :
    (Channel.write [] ≠ .free)
    ∧ (idle.channel = .free ∧ ∀ c, waiting idle c = false)
    ∧ (wall.channel = .free ∧ waiting wall .scanOut = true ∧ urgent wall = true
      ∧ ∀ a ∈ (accessOf (atTime wall 0) .scanOut).addrs, a < 4294967296)
    ∧ (let s := claims ⟨0, 0, 0, 16⟩
      s.channel = .free ∧ waiting s .report = true ∧ urgent s = false ∧ s.passed.get .report = 16
      ∧ (∀ d, waiting s d = true → (s.passed.get .report = 16 → s.passed.get d = 16) →
          (claimOrder s.cc.orderCode).idxOf .report ≤ (claimOrder s.cc.orderCode).idxOf d)
      ∧ ∀ a ∈ (accessOf s .report).addrs, a < 4294967296)
    ∧ (let s := claims ⟨0, 0, 0, 15⟩
      s.channel = .free ∧ waiting s .copy = true ∧ urgent s = false ∧ (∀ d, waiting s d = true → s.passed.get d ≠ 16)
      ∧ (∀ d, waiting s d = true → (s.passed.get .copy = 16 → s.passed.get d = 16) →
          (claimOrder s.cc.orderCode).idxOf .copy ≤ (claimOrder s.cc.orderCode).idxOf d)
      ∧ ∀ a ∈ (accessOf s .copy).addrs, a < 4294967296)
    ∧ (let s := { idle with port := { idle.port with phase := .writeAccess [(4294967296, 0)], claim := true } }
      s.channel = .free ∧ waiting s .sp = true ∧ ¬ (∀ a ∈ (accessOf s .sp).addrs, a < 4294967296)) := by
  refine ⟨by decide, ⟨by decide +kernel, ?_⟩, by decide +kernel, ⟨by decide +kernel, by decide +kernel, by decide +kernel,
    by decide +kernel, ?_, by decide +kernel⟩, ⟨by decide +kernel, by decide +kernel, by decide +kernel, ?_, ?_,
    by decide +kernel⟩, by decide +kernel⟩
  · intro c; cases c <;> decide +kernel
  · intro d; cases d <;> decide +kernel
  · intro d; cases d <;> decide +kernel
  · intro d; cases d <;> decide +kernel

/-- The idle part with the port in a state. -/
def port (p : Phase) : State := { idle with port := { idle.port with phase := p, claim := true } }

theorem witness_GrantedPortClaimsTakeEffect :
    ((port (.writeAccess [(16, 1)])).port.phase = .writeAccess [(16, 1)]
      ∧ (port (.mergedWrite 1 2 [])).port.phase = .mergedWrite 1 2 []
      ∧ (port (.refresh [[(16, 1)]])).port.phase = .refresh [[(16, 1)]]
      ∧ (port (.refresh [[(16, 1)], [(20, 1)]])).port.phase = .refresh [[(16, 1)], [(20, 1)]]
      ∧ (port (.startup 102 0)).port.phase = .startup 102 0 ∧ 102 + 1 < 104
      ∧ (port (.startup 103 0)).port.phase = .startup 103 0 ∧ 104 ≤ 103 + 1
      ∧ (0 < 104 ∧ 103 < 104 ∧ 0 < 256 ∧ 255 < 256)
      ∧ (port (.readAccess [⟨true, 4⟩] none)).port.phase = .readAccess [⟨true, 4⟩] none
      ∧ (port (.preRead 1 2 3 [] true)).port.phase = .preRead 1 2 3 [] true)
    ∧ (Memory.wf stored.mem = true ∧ ([((0x20 : Nat), (9 : Byte)), (0x21, 0)].map (·.1)).Nodup)
    ∧ (let s := { idle with port := { idle.port with arrived := [lastBeat .read []] } }
      s.port.phase = .idle ∧ s.port.arrived = [lastBeat .read []])
    ∧ idle.port.arrived = [] := by decide +kernel

/-- The port waiting for the data of a READ. -/
def reading (picks : List Pick) (got : Option (List Byte)) (data : List Byte) : State :=
  { idle with port := { idle.port with phase := .readAccess picks got }, channel := .spRead data }

theorem witness_ReadsReturnTheirBytesInOrder :
    let m1 : Memory := [(4, 1)]
    let m2 : Memory := [(8, 2)]
    let both : List Pick := [⟨true, 4⟩, ⟨false, 8⟩, ⟨true, 5⟩]
    let own : List Pick := [⟨true, 4⟩]
    let bank : List Pick := [⟨false, 8⟩]
    (((both.filter (·.first)).map (·.addr) ≠ [] ∧ (both.filter fun p => !p.first).map (·.addr) ≠ [])
      ∧ (reading both none (Memory.readAll m1 [4, 5])).channel = .spRead (Memory.readAll m1 ((both.filter (·.first)).map (·.addr)))
      ∧ (reading both none (Memory.readAll m1 [4, 5])).port.phase = .readAccess both none)
    ∧ ((reading both (some [1, 0]) (Memory.readAll m2 [8])).channel
        = .spRead (Memory.readAll m2 ((both.filter fun p => !p.first).map (·.addr)))
      ∧ (reading both (some [1, 0]) (Memory.readAll m2 [8])).port.phase
        = .readAccess both (some (Memory.readAll m1 ((both.filter (·.first)).map (·.addr)))))
    ∧ ((own.filter fun p => !p.first).map (·.addr) = [] ∧ (reading own none [1]).channel
        = .spRead (Memory.readAll m1 ((own.filter (·.first)).map (·.addr))))
    ∧ ((bank.filter (·.first)).map (·.addr) = [] ∧ (reading bank none [2]).channel
        = .spRead (Memory.readAll m2 ((bank.filter fun p => !p.first).map (·.addr))))
    ∧ ∀ data, idle.channel ≠ .spRead data := by
  refine ⟨by decide +kernel, by decide +kernel, by decide +kernel, by decide +kernel, ?_⟩
  intro data h; cases h

theorem witness_CompletionsFreeTheChannel :
    ({ idle with channel := .write [(16, 7)] }.channel = .write [(16, 7)])
    ∧ ((∀ undo, idle.channel ≠ .write undo) ∧ (∀ data d, idle.channel ≠ .copyRead data d) ∧ ∀ old, idle.channel ≠ .preRead old)
    ∧ (let s := { wall with channel := .copyRead [1] false, copy := .reading }
      s.channel = .copyRead [1] false ∧ s.copy = .reading)
    ∧ (let s := { port (.preRead 1 1 3 partLanes true) with channel := .preRead (List.replicate 64 9) }
      s.channel = .preRead (List.replicate 64 9) ∧ s.port.phase = .preRead 1 1 3 partLanes true
        ∧ (List.replicate 64 (9 : Byte)).length = 64) := by
  refine ⟨rfl, ⟨?_, ?_, ?_⟩, ⟨rfl, rfl⟩, rfl, rfl, rfl⟩
  · intro _ h; cases h
  · intro _ _ h; cases h
  · intro _ h; cases h

/-- The wall with link 3's assembly buffer holding some pixels, and its second segment read. -/
def assembling (n : Nat) (stage : Option LinePacket) : State :=
  { wall with
    channel := .segmentRead 3 (List.replicate 64 9) false
    tx := put wall.tx 3 { wall.tx[(3 : Fin 24)] with stage := stage }
    so := { wall.so with send := some ⟨.first, 2, 1,
      put (Vector.replicate 24 none) 3 (some { part3 with fetched := 2, assembly := List.replicate n 0 })⟩ } }

theorem witness_SegmentDataIsScaledIntoTheLine :
    ((15 : Nat) ≤ 15 ∧ (0 : Nat) ≤ 15)
    ∧ (∀ n ∈ [0, 16], let s := assembling n none
      (List.replicate 64 (9 : Byte)).length = 64 ∧ s.channel = .segmentRead 3 (List.replicate 64 9) false
      ∧ s.so.send = some ⟨.first, 2, 1,
          put (Vector.replicate 24 none) 3 (some { part3 with fetched := 2, assembly := List.replicate n 0 })⟩
      ∧ partOf s 3 = some { part3 with fetched := 2, assembly := List.replicate n 0 } ∧ (s.tx[(3 : Fin 24)]).stage = none)
    ∧ (0 + 16 < part3.tw ∧ part3.tw ≤ 16 + 16 ∧ part3.tileAt < part3.tiles.length)
    ∧ ((assembling 16 (some ⟨0, 0, 1, []⟩)).tx[(3 : Fin 24)]).stage ≠ none
    ∧ { wall with channel := .segmentRead 3 [1] true }.channel = .segmentRead 3 [1] true
    ∧ (∀ l data d, wall.channel ≠ .segmentRead l data d)
    ∧ (∃ t, exec .frameEvent wall = .next t)
    ∧ ∃ t, exec .scanOutFrameEvent wall = .next t := by
  refine ⟨by decide, by decide +kernel, by decide, by decide +kernel, rfl, ?_, exists_of_ran (by decide +kernel),
    exists_of_ran (by decide +kernel)⟩
  intro _ _ _ h; cases h

/-- The wall with a second link in the send, neither starved, link 3 served last. -/
def twoLinks : State :=
  { wall with so := { wall.so with
      send := some ⟨.first, 2, 1, put (put (Vector.replicate 24 none) 3 (some part3)) 2 (some part3)⟩
      links := Vector.replicate 24 ⟨true, false, 0, 0⟩, served := 3 } }

theorem witness_FetchesFollowTheSend :
    (partOf wall 3 = some part3 ∧ linkNeedsFetch wall 3 = true ∧ (wall.so.links[(3 : Fin 24)]).starved = true
      ∧ ∀ j, linkNeedsFetch wall j = true → (wall.so.links[j]).starved = true → (3 : Fin 24).val ≤ j.val)
    ∧ (partOf twoLinks 2 = some part3 ∧ linkNeedsFetch twoLinks 2 = true
      ∧ (∀ j, linkNeedsFetch twoLinks j = true → (twoLinks.so.links[j]).starved = false)
      ∧ ∀ j, linkNeedsFetch twoLinks j = true →
        ((2 : Fin 24).val + 23 - twoLinks.so.served.val) % 24 ≤ (j.val + 23 - twoLinks.so.served.val) % 24)
    ∧ ∀ l, linkNeedsFetch idle l = false := by decide +kernel

/-- The wall with the copy engine about to write segment `p` of bank 1 (segments 3 and 7 marked). -/
def copyWriting (p : Nat) (st : BankState) : State :=
  let s := copying p
  { s with copy := .wantWrite (List.replicate 64 1), banks := put s.banks 1 { s.banks[1] with state := st } }

theorem copyWriting_bank_filling : BankLaw (copyWriting 2 .filling) := by unfold BankLaw AtMostOne; decide +kernel
theorem copyWriting_bank_sealing : BankLaw (copyWriting 129599 .sealing) := by unfold BankLaw AtMostOne; decide +kernel
theorem copyWriting_bank_marked : BankLaw (copyWriting 3 .filling) := by unfold BankLaw AtMostOne; decide +kernel

theorem witness_CopyStepsFillTheGaps :
    (let s := copyWriting 2 .filling
    MapLaw s ∧ bankTarget s = some 1 ∧ (s.banks[1]).src = some 2 ∧ isMarked s 1 2 = false ∧ 2 < s.cc.segments
      ∧ ∀ q lanes, s.port.phase ≠ .sealStall q lanes)
    ∧ (let s := copyWriting 3 .filling
      MapLaw s ∧ bankTarget s = some 1 ∧ (s.banks[1]).src = some 2 ∧ isMarked s 1 3 = true)
    ∧ (let s := copyWriting 129599 .sealing
      MapLaw s ∧ bankTarget s = some 1 ∧ (s.banks[1]).src = some 2 ∧ 129599 + 1 = s.cc.segments)
    ∧ (let s := { copyWriting 129599 .sealing with port := { idle.port with phase := .sealStall 9 fullLanes } }
      MapLaw s ∧ s.port.phase = .sealStall 9 fullLanes ∧ s.copy = .wantWrite (List.replicate 64 1))
    ∧ (copying 2).copy = .wantRead := by
  refine ⟨⟨⟨copyWriting_bank_filling, by unfold lentTo; decide +kernel⟩, by decide +kernel, by decide +kernel, by decide +kernel,
      by decide +kernel, ?_⟩,
    ⟨⟨copyWriting_bank_marked, by unfold lentTo; decide +kernel⟩, by decide +kernel⟩,
    ⟨⟨copyWriting_bank_sealing, by unfold lentTo; decide +kernel⟩, by decide +kernel⟩,
    ⟨⟨copyWriting_bank_sealing, by unfold lentTo; decide +kernel⟩, rfl, rfl⟩, rfl⟩
  intro _ _ h; cases h

/-! ### Witnesses: reports, the reference, sends, links, tally and lights -/

/-- The wall with two reports handed over, a report kind mask, and the ring's indices. -/
def handed (mask : Word) (code : Word) (alloc cons : Nat) : State :=
  let s := word (word wall (.setting 8) mask) (.setting 7) code
  { s with rw := { s.rw with
      alloc := alloc, cons := cons, reports := [⟨.portError, 2, 3, 4⟩, ⟨.linkState, 77, 5, 6⟩, ⟨.linkState, 78, 5, 6⟩] } }

theorem witness_ReportsBecomeRecordsInOrder :
    (let s := handed 0x1FF 1 7 2
    s.rw.reports = [⟨.portError, 2, 3, 4⟩] ++ ⟨.linkState, 77, 5, 6⟩ :: [⟨.linkState, 78, 5, 6⟩]
      ∧ ReportKind.linkState.maker = .linkSupervisor
      ∧ (∀ x ∈ [(⟨.portError, 2, 3, 4⟩ : Report)], x.kind.maker ≠ .linkSupervisor)
      ∧ s.cc.setting[8].getLsbD (ReportKind.linkState.code - 1) = true ∧ s.cc.ringCode ≠ 0
      ∧ ¬ ((s.rw.alloc + 1) % s.cc.ringSize = s.rw.cons ∨ 64 ≤ s.rw.queue.length))
    ∧ (let s := handed 0x1FF 1 15 0
      (s.rw.alloc + 1) % s.cc.ringSize = s.rw.cons)
    ∧ (handed 0x1F7 1 7 2).cc.setting[8].getLsbD (ReportKind.linkState.code - 1) = false
    ∧ (handed 0x1FF 0 0 0).cc.ringCode = 0
    ∧ (∀ x ∈ wall.rw.reports, x.kind.maker ≠ .tallyUnit)
    ∧ (wall.rw.claim = some .index ∧ wall.rw.owed = some 6)
    ∧ (let s := { wall with rw := { wall.rw with claim := some (.part 3), outstanding := Vector.replicate 4 true, owed := none } }
      s.rw.claim = some (.part 3) ∧ s.rw.owed = none ∧ s.rw.outstanding[(0 : Fin 4)] = true
        ∧ ∀ j : Fin 4, j < 0 → s.rw.outstanding[j] = false)
    ∧ (let s := { wall with rw := { wall.rw with claim := some .record, owed := none } }
      s.rw.claim = some .record ∧ s.rw.queue = ⟨6, 0, 0, 0, 0⟩ :: [] ∧ s.rw.owed = none
        ∧ ∀ i : Fin 4, s.rw.outstanding[i] = false)
    ∧ (idle.rw.owed = none ∧ (∀ i : Fin 4, idle.rw.outstanding[i] = false) ∧ idle.rw.queue = [])
    ∧ ((word wall (.setting 0) 7).cc.setting[0].getLsbD 2 = true ∧ wall.rw.prod ≠ wall.rw.cons) := by decide +kernel

/-- A state with a frame event notice given to every block. -/
def noticed (s : State) (n : FrameNotice) : State :=
  { s with
    so := { s.so with frames := [n] }, lsv := { s.lsv with frames := [n] }, tu := { s.tu with frames := [n] }
    le := { s.le with frames := [n] }, wd := { s.wd with frames := [n] }, rw := { s.rw with frames := [n] } }

theorem witness_FrameNoticesRefreshTheStatusBlock :
    ((noticed wall (frame 41)).rw.frames = frame 41 :: [] ∧ (noticed wall (frame 41)).wd.frames = frame 41 :: [])
    ∧ (wall.rw.frames = [] ∧ wall.wd.frames = []) ∧ SupervisionLaw wall := ⟨⟨rfl, rfl⟩, ⟨rfl, rfl⟩, wall_supervision⟩

theorem witness_PulsesMeasureAndLock :
    internal.cc.modeInternal = true
    ∧ (idle.cc.modeInternal = false ∧ idle.ru.lastPulse = none)
    ∧ (wall.cc.modeInternal = false ∧ wall.ru.lastPulse = some 4000000 ∧ 4000000 ≤ max wall.now 6000500
      ∧ wall.cc.period ≤ max wall.now 6000500 - 4000000 + wall.cc.tolerance
      ∧ max wall.now 6000500 - 4000000 ≤ wall.cc.period + wall.cc.tolerance ∧ wall.ru.lock = .locked)
    ∧ (∀ good ∈ [4, 5], let s := { wall with ru := { wall.ru with lock := .acquire, watch := none, good := good } }
      s.ru.lock ≠ .locked ∧ s.cc.acquireCount = 6 ∧ s.ru.lastPulse = some 4000000)
    ∧ ¬ (max wall.now 6000501 - 4000000 ≤ wall.cc.period + wall.cc.tolerance) := by decide +kernel

theorem witness_LosingTheReferenceEntersHoldover :
    ReferenceLaw wall ∧ wall.ru.lock = .locked ∧ wall.ru.watch = some 6000500
    ∧ (wall.ru.lastPulse = some 4000000 ∧ 4000000 ≤ max wall.now 6000501
      ∧ wall.cc.period + wall.cc.tolerance < max wall.now 6000501 - 4000000)
    ∧ max wall.now 0 - 4000000 + wall.cc.tolerance < wall.cc.period
    ∧ wall.ru.schedule.getLast? = some ⟨4300000, false⟩
    ∧ (let s := { wall with ru := { wall.ru with schedule := [] } }
      ReferenceLaw s ∧ s.ru.schedule = [] ∧ s.ru.lastFrame = some 2300000)
    ∧ idle.ru.watch = none := by
  refine ⟨wall_reference, by decide +kernel, by decide +kernel, by decide +kernel, by decide +kernel, by decide +kernel,
    ⟨?_, rfl, rfl⟩, rfl⟩
  unfold ReferenceLaw; decide +kernel

/-- The idle part in HOLDOVER, its holdover count near the limit. -/
def holding (held last : Nat) : State :=
  { idle with ru := { idle.ru with lock := .holdover, held := held, schedule := [⟨3000000, true⟩], lastFrame := some last } }

theorem witness_FrameEventsAreProducedOrDropped :
    idle.ru.schedule = [] ∧ (∀ held ∈ [48, 49], ∀ last ∈ [2500000, 2500001],
      (holding held last).ru.schedule = ⟨3000000, true⟩ :: [] ∧ (holding held last).ru.lastFrame = some last)
    ∧ ¬ (max idle.now 3000000 < 2500000 + idle.cc.period / 4) ∧ max idle.now 3000000 < 2500001 + idle.cc.period / 4
    ∧ ¬ (idle.cc.holdoverLimit ≤ 48 + 1) ∧ idle.cc.holdoverLimit ≤ 49 + 1
    ∧ idle.rw.reports = []
    ∧ (let r : Report := ⟨.shieldDiscard, 0, 0, 0⟩
      (withReports idle [r, ⟨.refState, 0, 0, 0⟩]).rw.reports = r :: [⟨.refState, 0, 0, 0⟩]) := by decide +kernel

/-- The wall with its send's part complete. -/
def sent : State :=
  { wall with so := { wall.so with send := some ⟨.first, 2, 1, put (Vector.replicate 24 none) 3 (some { part3 with complete := true })⟩ } }

theorem sent_bank : BankLaw sent := by unfold BankLaw AtMostOne; decide +kernel
theorem settings_bank : BankLaw settings := by unfold BankLaw AtMostOne; decide +kernel

theorem witness_MarksFollowTheShowGate :
    (BankLaw idle ∧ idle.cc.running = false ∧ ∀ k : Fin 4, (idle.banks[k]).state.sends = false) ∧ wall.so.frames = []
    ∧ (BankLaw (noticed wall ⟨41, .lost⟩) ∧ (noticed wall ⟨41, .lost⟩).so.frames = ⟨41, .lost⟩ :: [] ∧ wall.cc.running = true)
    ∧ (BankLaw (noticed settings (frame 41)) ∧ settings.cc.running = true ∧ (frame 41).lock ≠ .lost ∧ settings.so.send = none)
    ∧ (BankLaw (noticed wall (frame 41)) ∧ partOf wall 3 = some part3 ∧ part3.complete = false)
    ∧ (BankLaw (noticed sent (frame 41))
      ∧ (∀ l : Fin 24, (partOf sent l).all (fun p => p.complete) = true)
      ∧ (sent.banks[2]).state = .sending ∧ (sent.banks[0]).state = .shown) :=
  ⟨⟨idle_bank, by decide +kernel⟩, rfl, ⟨wall_bank, rfl, by decide +kernel⟩, ⟨settings_bank, by decide +kernel⟩,
    ⟨wall_bank, by decide +kernel⟩, sent_bank, by decide +kernel⟩

theorem witness_SendsStartFromTheReadyOrShownBank :
    bankIn (inState settings 1 .ready) .ready = some 1
    ∧ (let s := { inState settings 1 .shown with so := { settings.so with resend := true } }
      bankIn s .ready = none ∧ s.so.resend = true ∧ bankIn s .shown = some 1)
    ∧ (41 : Word) ∈ (noticed idle (frame 41)).lsv.frames.map (·.count) ∧ (41 : Word) ∉ idle.lsv.frames.map (·.count)
    ∧ (bankIn idle .ready = none ∧ idle.so.resend = false) := by decide +kernel

theorem witness_NoticesReachTheScanOutEngine :
    (idle.so.leaves = [] ∧ idle.so.recovers = [] ∧ idle.so.gains = [])
    ∧ (let s := { wall with so := { wall.so with leaves := [3, 7], recovers := [23], gains := [255, 0] } }
      s.so.leaves = 3 :: [7] ∧ s.so.recovers = 23 :: [] ∧ s.so.gains = 255 :: [0] ∧ (partOf s 3).isSome = true
        ∧ s.so.claim = true ∧ { s with channel := .segmentRead 3 [1] false }.channel = .segmentRead 3 [1] false)
    ∧ (let s := { wall with so := { wall.so with leaves := [7] } }
      s.so.leaves = 7 :: [] ∧ partOf s 7 = none) := by decide +kernel

/-- Link 3's part about to send its last line, and a LINE of it. -/
def lastPart : Machine.Part := { part3 with tileAt := 0, line := 1, fetched := 2, assembly := List.replicate 32 0 }
/-- The LINE packet of a line of tile 0. -/
def lineOf (line : Nat) : LinePacket := ⟨0, line, 1, List.replicate 32 0⟩

/-- The wall with link 3 shifting a packet, its stage, its pending mark and its part as given. -/
def shifting (p : Packet) (stage : Option LinePacket) (mark : Option Mark) (part : Machine.Part) : State :=
  { wall with
    tx := put wall.tx 3 ⟨some ⟨p, 5000008⟩, stage, mark⟩
    so := { wall.so with
      send := some ⟨.first, 2, 1, put (Vector.replicate 24 none) 3 (some part)⟩
      links := put wall.so.links 3 ⟨true, false, 0, 0⟩ } }

theorem witness_PacketsFollowOneAnother :
    (0 < (lineOf 1).pixels.length ∧ 31 < (lineOf 1).pixels.length)
    ∧ (idle.tx[(3 : Fin 24)]).shift = none
    ∧ (let p := { lastPart with tileAt := 1, line := 0, fetched := 0, assembly := [] }
      let s := shifting (.line (lineOf 1)) none none p
      (s.tx[(3 : Fin 24)]).shift = some ⟨.line (lineOf 1), 5000008⟩ ∧ partOf s 3 = some p ∧ (lineOf 1).tag = 1
        ∧ p.lastLine (lineOf 1) = true ∧ s.cc.linkEnable 3 = true)
    ∧ part3.lastLine (lineOf 0) = false
    ∧ (part3.tiles[part3.tileAt]? = some ⟨0, 32, 4⟩ ∧ part3.line + 1 < part3.th ∧ lastPart.th ≤ lastPart.line + 1)
    ∧ (word wall (.tile 3 0) 0x00082008).cc.linkEnable 3 = false
    ∧ ((shifting .idle none (some ⟨true, 1⟩) part3).tx[(3 : Fin 24)]).mark = some ⟨true, 1⟩
    ∧ (let s := shifting .idle (some (lineOf 0)) none part3
      (s.tx[(3 : Fin 24)]).mark = none ∧ (s.tx[(3 : Fin 24)]).stage = some (lineOf 0)
        ∧ ∀ p ∈ partOf s 3, p.lineComplete = false)
    ∧ (let s := shifting .idle (some (lineOf 0)) none lastPart
      partOf s 3 = some lastPart ∧ lastPart.lineComplete = true)
    ∧ (let s := shifting .idle none none part3
      (s.tx[(3 : Fin 24)]).mark = none ∧ (s.tx[(3 : Fin 24)]).stage = none ∧ (s.so.links[(3 : Fin 24)]).primed = true
        ∧ (s.so.links[(3 : Fin 24)]).starved = false ∧ partOf s 3 = some part3 ∧ part3.complete = false) := by decide +kernel

/-- Bytes received back to back at rate code 0 from a tick on. -/
def received (start : Nat) (bytes : List Byte) : List RxByte :=
  (List.range bytes.length).map fun i => ⟨start + i, bytes.getD i 0, true⟩

/-- A LATCH report of a tag as it is received from tick 6,000,000 on. -/
def latch (tag : Byte) : List RxByte := received 6000000 [0x08, tag, 0, 0, 0, 0, 0, 0xF7 - tag]

/-- The wall with link 3 in a state, its receive buffer as given. -/
def linked (st : LinkState) (buffer : Option Tag) : State :=
  { wall with lsv := { wall.lsv with links := put wall.lsv.links 3 ⟨st, buffer, 3, false, false, false, false⟩ } }

/-- A run of received bytes, by the gaps between its bytes and the one behind it. -/
theorem isRun_of (rate : Nat) (run rest : List RxByte) (hne : run ≠ [])
    (hin : ∀ p ∈ run.zip run.tail, p.2.start ≤ p.1.start + 2 * (rate + 1))
    (hout : ∀ a ∈ run.getLast?, ∀ b ∈ rest.head?, a.start + 2 * (rate + 1) < b.start) : IsRun rate (run ++ rest) run := by
  refine ⟨hne, rest, rfl, fun i a b ha hb => ?_, fun a b ha hb => hout a ha b hb⟩
  refine hin (a, b) (List.mem_of_getElem? (i := i) ?_)
  simp [List.getElem?_zip_eq_some, ha, hb]

theorem witness_ReturnPacketsAreReceivedOrFault :
    (idle.lsv.links[(3 : Fin 24)]).state = .off
    ∧ rateAt wall 3 6000000 = 0
    ∧ (IsRun 0 (latch 5) (latch 5) ∧ (latch 5).length = 8 ∧ (∀ b ∈ latch 5, b.stopHigh = true)
      ∧ ((latch 5).map fun b => b.data.toNat).sum % 256 = 255)
    ∧ IsRun 0 (latch 5 ++ [⟨6000010, 0x08, true⟩]) (latch 5)
    ∧ IsRun 0 (latch 5 ++ [⟨6000009, 0x08, true⟩]) (latch 5 ++ [⟨6000009, 0x08, true⟩])
    ∧ (IsRun 0 (received 6000000 [8, 5]) (received 6000000 [8, 5]) ∧ (received 6000000 [8, 5]).length ≠ 8)
    ∧ (((latch 5).set 3 ⟨6000003, 1, true⟩).map fun b => b.data.toNat).sum % 256 ≠ 255
    ∧ (∀ st ∈ [LinkState.active, .fault, .recover], ∀ buffer ∈ [none, some (4 : Tag)],
      let r := (linked st buffer).lsv.links[(3 : Fin 24)]
      r.state = st ∧ r.state ≠ .off ∧ r.inhibit = false ∧ r.buffer = buffer) := by
  refine ⟨by decide +kernel, by decide +kernel, ⟨isRun_of 0 (latch 5) [] ?_ ?_ ?_, by decide +kernel⟩,
    isRun_of 0 (latch 5) [⟨6000010, 0x08, true⟩] ?_ ?_ ?_,
    isRun_of 0 (latch 5 ++ [⟨6000009, 0x08, true⟩]) [] ?_ ?_ ?_,
    ⟨isRun_of 0 (received 6000000 [8, 5]) [] ?_ ?_ ?_, by decide +kernel⟩, by decide +kernel⟩
  all_goals decide +kernel

/-- Link 3 before its check at event 41: its state, its buffer and its join; event 40's mark is due, event 41's is not. -/
def checking (st : LinkState) (buffer : Option Tag) (joined : Option Word) : State :=
  let s := noticed (linked st buffer) (frame 41)
  { s with lsv := { s.lsv with joined := put s.lsv.joined 3 joined, marks := [⟨40, ⟨true, 1⟩⟩, ⟨41, ⟨true, 2⟩⟩] } }

theorem witness_ChecksJudgeEachLink :
    (wall.lsv.frames = [] ∧ wall.lsv.marks = [])
    ∧ ((noticed idle (frame 41)).lsv.frames = frame 41 :: [] ∧ idle.cc.running = false)
    ∧ (∀ st buffer joined, let s := checking st buffer joined
      s.lsv.frames = frame 41 :: [] ∧ s.lsv.marks = [⟨40, ⟨true, 1⟩⟩] ++ [⟨41, ⟨true, 2⟩⟩]
        ∧ (s.lsv.links[3]).state = st ∧ (s.lsv.links[3]).buffer = buffer ∧ s.lsv.joined[3] = joined ∧ (s.lsv.links[3]).miss = 3)
    ∧ ((∀ m ∈ [(⟨40, ⟨true, 1⟩⟩ : MarkNotice)], ∀ f ∈ [frame 41], f.count ≠ m.count) ∧ wall.cc.running = true
      ∧ wall.cc.missLimit ≤ 3 + 1)
    ∧ (let s := { wall with lsv := { wall.lsv with marks := [⟨41, ⟨true, 1⟩⟩] } }
      s.lsv.marks = ⟨41, ⟨true, 1⟩⟩ :: [] ∧ (∀ f ∈ s.lsv.frames, f.count ≠ 41)
        ∧ ∃ f ∈ (noticed s (frame 41)).lsv.frames, f.count = 41) := by
  refine ⟨by decide +kernel, by decide +kernel, ?_, by decide +kernel, by decide +kernel⟩
  intro st buffer joined
  exact ⟨rfl, rfl, rfl, rfl, rfl, rfl⟩

/-- The wall with the edge modes OFF, RISE, FALL, BOTH for inputs 1 to 4, and some levels and pending flags. -/
def tally (levels pending : BitVec 8) : State :=
  let s := word wall (.setting 14) 0xE4
  { s with tu := { s.tu with levels := levels, pending := pending, frames := [frame 41] } }

theorem witness_TalliesChooseTheCameraAndLook :
    (let s := tally 0 0x08
    (s.tu.levels.getLsbD 0 = false ∧ s.cc.edgeMode 0 = 0) ∧ (s.tu.levels.getLsbD 1 = false ∧ s.cc.edgeMode 1 = 1)
      ∧ s.cc.edgeMode 2 = 2 ∧ s.cc.edgeMode 3 = 3 ∧ s.tu.pending.getLsbD 3 = true ∧ s.tu.pending.getLsbD 1 = false)
    ∧ wall.tu.frames = []
    ∧ ((tally 0 0).tu.frames = frame 41 :: [] ∧ ∀ p < 8, (tally 0 0).tu.levels.getLsbD ((tally 0 0).cc.rankAt p).val = false)
    ∧ (let s := tally 0x09 0
      (∀ q < 3, ¬ (s.tu.levels.getLsbD (s.cc.rankAt q).val = true ∧ s.cc.edgeMode (s.cc.rankAt q) ≠ 0))
        ∧ s.tu.levels.getLsbD (s.cc.rankAt 3).val = true ∧ s.cc.edgeMode (s.cc.rankAt 3) ≠ 0 ∧ s.cc.rankAt 3 = 3) := by
  decide +kernel

theorem witness_SegmentsContributeTheirIncludedPixels :
    segmentInZone 120 ⟨true, 2, 4, 1, 3, none⟩ (3 * 120 + 4) = true
    ∧ segmentInZone 120 ⟨true, 2, 4, 1, 3, none⟩ (4 * 120 + 2) = false := by decide

/-- The wall with every lighting notice given, fixture 5 in a mode. -/
def lit (mode : Word) : State :=
  let s := word wall (.fixture 5 0) mode
  { s with le := { s.le with
      shows := 1, gainNotices := [⟨.look, ⟨128, 128, 128⟩⟩, ⟨.lights, ⟨0, 0, 255⟩⟩], entries := [5] } }

theorem witness_NoticesRetargetTheFixtures :
    (bankOnWall idle = none ∧ bankOnWall wall = some 0)
    ∧ (idle.le.shows = 0 ∧ idle.le.gainNotices = [] ∧ idle.le.entries = [])
    ∧ ((lit 1).le.shows = 0 + 1 ∧ (lit 1).le.gainNotices = ⟨.look, ⟨128, 128, 128⟩⟩ :: [⟨.lights, ⟨0, 0, 255⟩⟩]
      ∧ (run .lookNotice (lit 1)).le.gainNotices = ⟨.lights, ⟨0, 0, 255⟩⟩ :: [] ∧ (lit 1).le.entries = 5 :: [])
    ∧ (fixMode (lit 1).cc.fixtures[(5 : Fin 128)] = 1 ∧ fixMode (lit 2).cc.fixtures[(5 : Fin 128)] = 2
      ∧ fixMode (lit 0).cc.fixtures[(5 : Fin 128)] = 0)
    ∧ (fixFade (lit 0).cc.fixtures[(5 : Fin 128)] = 0 ∧ fixFade (lit 0x90001).cc.fixtures[(5 : Fin 128)] = 9
      ∧ fixFade (lit 0xA0001).cc.fixtures[(5 : Fin 128)] = 10) := by decide +kernel

/-- The wall with lamp link 0 enabled, fixture 5 placed on slots 0 to 5, and a lamp unit under way. -/
def lamped (shift : LampShift) (stage : Option (List Byte)) : State :=
  let s := word (noticed wall (frame 41)) (.setting 17) 0x63001801
  { s with lamps := put s.lamps 0 ⟨shift, stage, 0⟩ }

theorem witness_FadesStepAndLampsAreSent :
    wall.le.frames = []
    ∧ (let s := lamped .empty none
      s.le.frames = frame 41 :: [] ∧ (frame 41).lock ≠ .lost ∧ (s.le.fixtures[(5 : Fin 128)]).remaining = 8
        ∧ (s.le.fixtures[(6 : Fin 128)]).remaining = 0 ∧ s.cc.lampEnable 0 = true ∧ s.cc.lampEnable 1 = false
        ∧ s.cc.lampSlots 0 = 24
        ∧ covers s.cc 0 5 127 = true ∧ (∀ h : Fin 128, 127 < h → covers s.cc 0 5 h = false)
        ∧ ∀ i : Fin 128, covers s.cc 0 23 i = false)
    ∧ (noticed wall ⟨41, .lost⟩).le.frames = ⟨41, .lost⟩ :: []
    ∧ (let s := lamped (.fill 5000100) (some [1])
      (s.lamps[(0 : Fin 2)]).shift = .fill 5000100 ∧ s.cc.lampEnable 0 = true ∧ (s.lamps[(0 : Fin 2)]).stage = some [1])
    ∧ (let s := lamped (.frame [1] 5000100) none
      (s.lamps[(0 : Fin 2)]).shift = .frame [1] 5000100 ∧ (s.lamps[(0 : Fin 2)]).stage = none)
    ∧ (let s := word (lamped (.fill 5000100) none) (.setting 17) 0x63001800
      s.cc.lampEnable 0 = false ∧ (s.lamps[(0 : Fin 2)]).shift = .fill 5000100) := by decide +kernel

/-! ### The spec's worked examples, one step each -/

/-- A pixel's word: red from bit 0, green from bit 10, blue from bit 20. -/
def pixel (r g b : Nat) : Word := BitVec.ofNat 32 (r + 1024 * g + 1048576 * b)
/-- The 64 bytes of sixteen pixels, twelve of the first and four of the second. -/
def sixteen (x y : Word) : List Byte := (List.replicate 12 x ++ List.replicate 4 y).flatMap bytesOf
/-- A full segment's lanes. -/
def segment (x y : Word) : List Lane := (sixteen x y).map some

/-- A running wall without copy-forward; zones 5 (clip code 14) and 6 (OFF) cover the first three segments (section 3.7). -/
def zoned : State :=
  let s := word idle (.setting 0) 1
  let s := word (word (word s (.zone 5 0) 0x0E01) (.zone 5 1) 0x00020000) (.zone 5 2) 0
  word (word (word s (.zone 6 0) 0x1001) (.zone 6 1) 0x00020000) (.zone 6 2) 0

/-- Section 3.7, first segment: zone 5 leaves the four highlights out, zone 6 takes them in. -/
theorem test_canvas_write_adds_to_the_zones :
    let t := run (.canvasWrite 0 0 4 (segment (pixel 800 400 200) (pixel 1000 990 980))) zoned
    (t.banks[0]).acc[5] = ⟨⟨9600, 4800, 2400⟩, 12, false⟩ ∧ (t.banks[0]).acc[6] = ⟨⟨13600, 8760, 6320⟩, 16, false⟩ := by
  decide +kernel

/-- `zoned` with bank 0 FILLING, its sums after the third segment, that segment's rewrite waiting for its old content. -/
def rewriting : State :=
  let s := inState (openBank zoned 0) 0 .filling
  let b := s.banks[0]
  { s with
    banks := put s.banks 0 { b with
      acc := put (put b.acc 5 ⟨⟨20800, 11200, 6400⟩, 40, false⟩) 6 ⟨⟨28800, 19120, 14240⟩, 48, false⟩ }
    port := { s.port with phase := .preRead 0 0 2 (segment (pixel 200 200 200) (pixel 200 200 200)) true }
    channel := .preRead (sixteen (pixel 100 100 100) (pixel 100 100 100)) }

/-- Section 3.7, the rewrite: the old contribution is taken out and the new one put in. -/
theorem test_rewrite_swaps_the_sums :
    let t := run .preReadDataReturn rewriting
    (t.banks[0]).acc[5] = ⟨⟨22400, 12800, 8000⟩, 40, false⟩ ∧ (t.banks[0]).acc[6] = ⟨⟨30400, 20720, 15840⟩, 48, false⟩ := by
  decide +kernel

/-- Section 3.7: the means after the rewrite, rounded down. -/
theorem test_means : zoneMean ⟨⟨22400, 12800, 8000⟩, 40, false⟩ = some ⟨560, 320, 200⟩
    ∧ zoneMean ⟨⟨30400, 20720, 15840⟩, 48, false⟩ = some ⟨633, 431, 330⟩ := by decide

/-- All four claimants waiting under order code 2, with given counts (section 2.5.1). -/
def contested (passed : Passed) : State :=
  let s := word twoLinks (.setting 5) 2
  { s with
    passed := passed, copy := .wantRead, so := { s.so with claim := true }
    banks := put s.banks 1 { s.banks[1] with src := some 2, progress := 4 }
    port := { s.port with phase := .readAccess [⟨true, 0x20000000⟩] none, claim := true } }

/-- Section 2.5.1, grant 17: SP is the first aged claimant in code order. -/
theorem test_grant_17 :
    let t := run (.arbiterGrant 0) (contested ⟨16, 0, 16, 16⟩)
    t.channel = .spRead [0] ∧ t.passed = ⟨0, 1, 16, 16⟩ := by decide +kernel

/-- Section 2.5.1, grant 33: none aged, Scan-Out is granted. -/
theorem test_grant_33 : (run (.arbiterGrant 0) (contested ⟨15, 0, 14, 13⟩)).passed = ⟨16, 0, 15, 14⟩ := by decide +kernel

/-- The unit of section 4.8 after the frame event at 300,000. -/
def lockedUnit : State :=
  { idle with
    now := 300000
    ru := ⟨.locked, some 0, 0, 0, [], 2000010, some 300000, some 2000500, false, 8⟩ }

/-- Section 4.8: the watch expires at 2,000,500, and the free run is scheduled at 2,300,010. -/
theorem test_pulse_missing :
    let t := run .pulseMissing lockedUnit
    t.now = 2000500 ∧ t.ru.lock = .holdover ∧ t.ru.fault = true ∧ t.ru.schedule = [⟨2300010, true⟩] := by decide +kernel

/-- Section 4.8: the frame event at 2,300,010 is the first of the holdover. -/
theorem test_holdover_frame_event :
    let t := run .frameEvent (run .pulseMissing lockedUnit)
    t.ru.held = 1 ∧ t.ru.schedule = [⟨4300020, true⟩] ∧ t.so.frames = [⟨9, .holdover⟩] := by decide +kernel

/-- Section 4.8: the sixth good pulse locks at 33,150,000 and removes the free-running time. -/
theorem test_sixth_good_pulse_locks :
    let t := run (.referencePulse 33150000) { idle with
      ru := ⟨.holdover, some 31150000, 5, 16, [⟨34300170, true⟩], 2000010, some 32300160, none, true, 24⟩
      cc := idle.cc.setWord (.setting 12) 300000 }
    t.ru.lock = .locked ∧ t.ru.schedule = [⟨33450000, false⟩] ∧ t.ru.coast = 2000000 ∧ t.ru.held = 0 ∧ t.ru.fault = true := by
  decide +kernel

/-- Section 11.9: with the limit at 3, the third holdover frame event carries LOST. -/
theorem test_holdover_limit :
    let t := run .frameEvent { idle with
      ru := ⟨.holdover, some 0, 0, 2, [⟨6300000, true⟩], 2000000, some 4300000, none, true, 10⟩
      cc := idle.cc.setWord (.setting 13) 3 }
    t.ru.lock = .lost ∧ t.ru.held = 3 ∧ t.so.frames = [⟨11, .lost⟩] := by decide +kernel

/-- The wall of section 5.10.1: link 4's send, two tiles of two lines. -/
def fetching (part : Machine.Part) : State :=
  let s := word (word settings (.tile 4 0) 0x0008201B) (.tile 4 2) 0x80640280
  let s := word (word s (.tile 4 3) 0) (.tile 4 4) 0x806402A0
  { inState s 2 .sending with
    so := { s.so with send := some ⟨.first, 2, 37, put (Vector.replicate 24 none) 4 (some part)⟩, claim := true } }

/-- Section 5.10.1: tiles 0 and 2 are included. -/
theorem test_included_tiles : includedTiles (fetching part3).cc 4 = [⟨0, 640, 100⟩, ⟨2, 672, 100⟩] := by decide +kernel

/-- Section 5.10.1: the fourth LINE's second segment is segment 12,163 of bank 2. -/
theorem test_fetch_order :
    accessOf (fetching { part3 with
      tiles := [⟨0, 640, 100⟩, ⟨2, 672, 100⟩], tileAt := 1, line := 1, fetched := 1 }) .scanOut
      = .read (blockAddrs (0x10000000 + 2 * 0x800000 + 64 * 12163)) := by decide +kernel

/-- Section 5.10.1: a LINE packet of 32 pixels at rate code 1 takes 272 ticks. -/
theorem test_line_packet_ticks :
    let s := fetching part3
    let t := run (.packetFinish 4) { s with tx := put s.tx 4 ⟨some ⟨.idle, 2000⟩, some (lineOf 0), none⟩ }
    (t.tx[4]).shift.map (·.ends) = some 2272 := by decide +kernel

/-- Section 5.10.2: the pixel law on link 7. -/
theorem test_pixel_law : scalePixel 191 ⟨15, 13, 11⟩ (pixel 800 400 200) = pixel 600 281 131
    ∧ scalePixel 255 ⟨15, 13, 11⟩ (pixel 800 400 200) = pixel 800 375 175 := by decide +kernel

/-- Section 5.10.3, event 101: one part incomplete, so HOLD 36 and one late count. -/
theorem test_gate_holds :
    let t := run .scanOutFrameEvent (noticed { wall with so := { wall.so with lastShown := 36 } } (frame 101))
    (t.so.links[3]).late = 1 ∧ (t.tx[3]).mark = some ⟨false, 36⟩ ∧ (t.banks[2]).state = .sending := by decide +kernel

/-- Section 5.10.3, event 102: every part complete, so SHOW with the send's tag, and the bank is shown. -/
theorem test_gate_shows :
    let t := run .scanOutFrameEvent (noticed sent (frame 102))
    (t.tx[3]).mark = some ⟨true, 1⟩ ∧ t.so.lastShown = 1 ∧ (t.banks[2]).state = .shown ∧ (t.banks[0]).state = .free
      ∧ t.le.shows = 1 := by decide +kernel

/-- Section 6.11, event 305: the fourth miss reaches the limit. -/
theorem test_miss_limit :
    let t := run .linkCheck (noticed (linked .active none) (frame 305))
    (t.lsv.links[3]).state = .fault ∧ (t.lsv.links[3]).miss = 4 ∧ t.so.leaves = [3]
      ∧ t.rw.reports = [⟨.linkState, 3, BitVec.ofNat 32 (1 + 16 * 2 + 256 * 2 + 65536 * 4), 0⟩] := by decide +kernel

/-- Section 6.11, event 307: a good report of any tag takes the link to RECOVER. -/
theorem test_good_report_recovers :
    let t := run .linkCheck (noticed (linked .fault (some 0)) (frame 307))
    (t.lsv.links[3]).state = .recover ∧ (t.lsv.links[3]).miss = 0 ∧ (t.lsv.links[3]).buffer = none ∧ t.so.recovers = [3] := by
  decide +kernel

/-- Section 10.8.6: a LATCH report's eight bytes sum to 255 and leave their tag in the buffer. -/
theorem test_latch_report : ((run (.returnPacketArrival 3 (latch 37)) wall).lsv.links[3]).buffer = some 37 := by decide +kernel

/-- R200: two bytes and then an idle line are a framing error, taken two byte times and a tick after the last start bit. -/
theorem test_short_packet :
    let t := run (.returnPacketArrival 3 (received 6000000 [8, 5])) wall
    (t.lsv.links[3]).framingError = true ∧ (t.lsv.links[3]).state = .fault ∧ t.now = 6000004 := by decide +kernel

/-- R126: taken before the check of the same event, a join leaves that check without effect on the link; the next check is made
against the join's mark and counts a miss. -/
theorem test_joined_link_is_first_checked_at_the_next_event :
    let s := noticed (inState (linked .recover none) 1 .ready) (frame 41)
    let s := run .linkCheck (run .scanOutFrameEvent { s with so := { s.so with send := none } })
    let t := run .linkCheck { s with lsv := { s.lsv with frames := [frame 42] } }
    (s.lsv.links[3]).state = .active ∧ (s.lsv.links[3]).miss = 0 ∧ (t.lsv.links[3]).miss = 1 := by decide +kernel

/-- The studio of section 7.7. -/
def studio : State :=
  let s := word (word (word settings (.setting 14) 0x3F) (.setting 15) 0x00FAC611) (.setting 16) 0x14
  let s := { s with cc := { s.cc with lookB := ⟨191, 0x006E808C⟩ } }
  { s with tu := { s.tu with levels := 0x01, camera := some 0, frames := [frame 501] } }

/-- Section 7.7: the rank word names inputs 2, 3, 1, 4 to 8. -/
theorem test_rank_word : rankCodes studio.cc.setting[15] = [1, 2, 0, 3, 4, 5, 6, 7] := by decide +kernel

/-- Section 7.7: the rising edge on input 2 is selected and reported. -/
theorem test_tally_edge :
    let t := run (.tallyEdge 1 true) studio
    t.tu.levels = 0x03 ∧ t.tu.pending = 0x02 ∧ t.tu.overrun = 0 ∧ t.rw.reports = [⟨.tallyEdge, 2, 2, 0⟩] := by decide +kernel

/-- Section 7.7, event 501: camera 2 and look B, with both notices. -/
theorem test_tally_sample :
    let t := run .tallySample { studio with tu := { studio.tu with levels := 0x02 } }
    t.tu.camera = some 1 ∧ t.tu.look = .b ∧ t.so.gains = [191] ∧ t.le.gainNotices = [⟨.look, ⟨140, 128, 110⟩⟩] := by decide +kernel

/-- R140's example: the list 5, 5, 2, 8, 2, 1, 1, 1 is repaired to 5, 2, 8, 1, 3, 4, 6, 7. -/
theorem test_rank_repair :
    repairRank [4, 4, 1, 7, 1, 0, 0, 0] = [4, 1, 7, 0, 2, 3, 5, 6]
    ∧ rankCodes (setRank 0xFF000000 [4, 1, 7, 0, 2, 3, 5, 6]) = [4, 1, 7, 0, 2, 3, 5, 6] := by decide +kernel

/-- Fixture 9 of section 8.6, bank 2 on the wall with zone 5's sums. -/
def fixture9 (gains : RGB) (sum : RGB) (f : Fixture) : State :=
  let s := word (word (word settings (.fixture 9 0) 0x00020501) (.fixture 9 1) 0x0BBB0030) (.setting 17) 0x63006001
  let s := inState s 2 .shown
  { s with
    banks := put s.banks 2 { s.banks[2] with acc := put (s.banks[2]).acc 5 ⟨sum, 40, false⟩ }
    le := { s.le with fixtures := put s.le.fixtures 9 f, gains := gains, shows := 1, frames := [frame 600] } }

/-- Section 8.6, the retarget: targets, steps and frames. -/
theorem test_show_notice :
    let t := run .showNotice (fixture9 ⟨128, 128, 96⟩ ⟨20800, 11200, 6400⟩ ⟨⟨0, 0, 0⟩, ⟨20000, 20000, 1⟩, ⟨0, 0, 0⟩, 0, true⟩)
    t.le.fixtures[9] = ⟨⟨29120, 15680, 6720⟩, ⟨20000, 20000, 1⟩, ⟨1140, 540, 840⟩, 8, false⟩ := by decide +kernel

/-- Section 8.6, the fade's first step. -/
theorem test_fade_step :
    let t := run .fadeStep (fixture9 ⟨128, 128, 96⟩ ⟨20800, 11200, 6400⟩
      ⟨⟨29120, 15680, 6720⟩, ⟨20000, 20000, 1⟩, ⟨1140, 540, 840⟩, 8, false⟩)
    (t.le.fixtures[9]).level = ⟨21140, 19460, 841⟩ ∧ (t.le.fixtures[9]).remaining = 7 := by decide +kernel

/-- Section 11.8: look B's gains retarget fixture 9. -/
theorem test_look_notice :
    let s := fixture9 ⟨128, 128, 128⟩ ⟨22400, 12800, 8000⟩ ⟨⟨31360, 17920, 11200⟩, ⟨31360, 17920, 11200⟩, ⟨0, 0, 0⟩, 0, false⟩
    let t := run .lookNotice { s with le := { s.le with gainNotices := [⟨.look, ⟨140, 128, 110⟩⟩] } }
    t.le.fixtures[9] = ⟨⟨34300, 17920, 9625⟩, ⟨31360, 17920, 11200⟩, ⟨368, 0, 197⟩, 8, false⟩ := by decide +kernel

/-- Section 11.8, event 508: the last step stops at the target. -/
theorem test_fade_ends :
    let t := run .fadeStep (fixture9 ⟨140, 128, 110⟩ ⟨22400, 12800, 8000⟩
      ⟨⟨34300, 17920, 9625⟩, ⟨33936, 17920, 9821⟩, ⟨368, 0, 197⟩, 1, false⟩)
    (t.le.fixtures[9]).level = ⟨34300, 17920, 9625⟩ ∧ (t.le.fixtures[9]).remaining = 0 := by decide +kernel

/-- The fixtures of section 9.7.1 on lamp link 0, every other entry on lamp link 1. -/
def lampFixtures : State :=
  let s := word (noticed idle (frame 1)) (.setting 17) 0x63001801
  let s := { s with cc := { s.cc with fixtures := Vector.replicate 128 #v[0, 0x0FFF1000, 0, 0] } }
  let s := word (word s (.fixture 3 1) 0x0FFF0006) (.fixture 7 1) 0x0FFF0009
  let s := word (word s (.fixture 12 1) 0x0FFF0010) (.fixture 20 1) 0x0FFF0014
  let level := fun (s : State) i (l : RGB) => { s with le := { s.le with
    fixtures := put s.le.fixtures i ⟨l, l, ⟨0, 0, 0⟩, 0, false⟩ } }
  level (level (level s 3 ⟨4660, 300, 65535⟩) 7 ⟨256, 513, 1027⟩) 12 ⟨1000, 2000, 3000⟩

/-- The lamp frame of section 9.7.1, with its header and its sum of 727. -/
def lampFrame : List Byte :=
  [0x5A, 0, 24, 0, 0, 0, 0, 0, 0, 18, 52, 1, 1, 0, 2, 1, 4, 3, 0, 3, 232, 7, 208, 11, 184, 0, 0, 2, 215]

/-- Section 9.7.1: the composed frame. -/
theorem test_lamp_frame : ((run .fadeStep lampFixtures).lamps[0]).stage = some lampFrame := by decide +kernel

/-- Section 9.7.1: the frame lasts 116,000 ticks at the power-on rate. -/
theorem test_lamp_frame_ticks :
    let t := run (.lampUnitFinish 0) { lampFixtures with lamps := put lampFixtures.lamps 0 ⟨.fill 4000, some lampFrame, 0⟩ }
    (t.lamps[0]).shift = .frame lampFrame 120000 ∧ (t.lamps[0]).stage = none := by decide +kernel

/-- The banks of section 11.6: 1 SHOWN, 2 SENDING, 3 READY, 0 FILLING from 3. -/
def behind : State :=
  let s := inState (inState (inState (inState settings 1 .shown) 2 .sending) 3 .ready) 0 .filling
  { s with
    banks := put (put s.banks 3 { s.banks[3] with host := some 52 }) 0 { s.banks[0] with src := some 3, progress := 40000 }
    map0 := ⟨some 0, []⟩, nextMap := true, copy := .wantRead }

/-- Section 11.6: the commit drops frame 52, retires bank 3 and seals bank 0. -/
theorem test_commit_during_copy :
    let t := run (.commit 0 15 53) behind
    (t.banks[0]).state = .sealing ∧ (t.banks[0]).host = some 53 ∧ (t.banks[3]).state = .retiring
      ∧ t.rw.reports = [⟨.frameDropped, 3, 52, 0⟩] := by decide +kernel

/-- Section 11.6: the copy completes, bank 3 becomes FREE, and the held write opens bank 1 with bank 0 as its source. -/
theorem test_copy_completes_under_a_stall :
    let s := inState (inState (inState (inState settings 0 .sealing) 1 .free) 2 .shown) 3 .retiring
    let t := run (.arbiterGrant 0) { s with
      banks := put s.banks 0 { s.banks[0] with src := some 3, progress := 129599 }
      map0 := ⟨some 0, []⟩, nextMap := true, copy := .wantWrite (List.replicate 64 0)
      port := { s.port with phase := .sealStall 9 fullLanes } }
    (t.banks[0]).state = .ready ∧ (t.banks[3]).state = .free ∧ (t.banks[1]).state = .filling ∧ (t.banks[1]).src = some 0
      ∧ t.map1.lentTo = some 1 ∧ t.port.claim = true := by decide +kernel

/-- Section 5.10.2: a wall gain notice that differs from the latched gain asks for a resend. -/
theorem test_wall_gain_notice :
    (run .wallGainNotice { idle with so := { idle.so with gain := 191, gains := [255] } }).so.resend = true
    ∧ (run .wallGainNotice { idle with so := { idle.so with gain := 191, gains := [191] } }).so.resend = false := by decide +kernel

/-- R186: a canvas width of 1930 is rounded down to 1920, kept in memory and reported CLAMPED. -/
theorem test_canvas_width :
    let t := run (.canvasWidthWrite 0 15 1930) idle
    t.cc.width = 1920 ∧ t.port.phase = .writeAccess (cellsFrom 0x3FFFC004 [0x80, 0x07, 0, 0])
      ∧ t.rw.reports = [⟨.settingAdjusted, 0, 0x004, 1920⟩] := by decide +kernel

/-- R58: a zone's column bounds written in the wrong order are put in order. -/
theorem test_zone_entry :
    let t := run (.zoneEntryWrite 0 5 ((List.replicate 4 none) ++ [some 7, some 0, some 2, some 0] ++ List.replicate 8 none)) idle
    (zoneOf t.cc.zones[5]).s0 = 2 ∧ (zoneOf t.cc.zones[5]).s1 = 7 := by decide +kernel

/-- R85: in INTERNAL mode frame events begin one nominal period after the capture. -/
theorem test_mode_internal :
    let t := run (.modeWriteInternal 1000 1 1) idle
    t.ru.lock = .internal ∧ t.ru.schedule = [⟨2001000, true⟩] := by decide +kernel

/-- R194: a record of the ring stands at its base plus 16 times its slot, before its index write. -/
theorem test_record_write :
    let t := run (.arbiterGrant 0) { settings with rw := { settings.rw with
      alloc := 3, prod := 2, queue := [⟨2, 0x04030201, 0, 0, 0x40⟩], claim := some .record } }
    Memory.readAll t.mem [0x0F000020, 0x0F000023, 0x0F00002C] = [1, 4, 0x40] ∧ t.rw.prod = 2 ∧ t.rw.owed = some 3
      ∧ t.rw.claim = some .index := by decide +kernel

/-- R40: a READ that straddles the canvas and its tail reads its own bytes first, then the bank's. -/
theorem test_read_of_two_kinds :
    let t := run (.readDataReturn 0) (reading [⟨false, 8⟩, ⟨true, 4⟩] (some [7]) [9])
    t.port.responses = [.data [9, 7]] ∧ t.port.phase = .idle := by decide +kernel

/-- R191: the sweep's first access from reset writes the power-on value 2 of the word at offset 0. -/
theorem test_sweep_starts :
    let t := run (.arbiterGrant 0) State.reset
    Memory.read t.mem 0x3FFFC000 = 2 ∧ t.port.phase = .startup 1 0 := by decide +kernel

/-- R172, R173: an enabled lamp link begins a fill unit of one byte time, 4,000 ticks at the power-on rate. -/
theorem test_lamp_enable : ((run (.lampLinkEnableSet 1000 1 1 1) idle).lamps[1]).shift = .fill 5000 := by decide +kernel

/-- R129, R114: an enabled tile link enters RECOVER and begins an IDLE packet. -/
theorem test_link_enable :
    let t := run (.tileLinkEnableSet 1000 23 1 1) idle
    (t.lsv.links[23]).state = .recover ∧ (t.tx[23]).shift = some ⟨.idle, 1008⟩ ∧ t.so.recovers = [23] := by decide +kernel

/-- R32: a read of five beats is refused with BAD_LENGTH. -/
theorem test_bad_length :
    let t := run (.plainRequest 0 ⟨.read, 0x40, 5, []⟩) idle
    t.port.responses = [.error] ∧ t.rw.reports = [⟨.portError, 1, 0x40, 0x500⟩] := by decide +kernel

/-- R39: a write to the status block is discarded, counted and reported. -/
theorem test_shielded_write :
    let t := run (.shieldedWrite 0 .statusBlock 0 1 lastLane) idle
    t.wd.discards = 1 ∧ t.port.responses = [.done] ∧ t.rw.reports = [⟨.shieldDiscard, 0, 0x3FFFC200, 0⟩] := by decide +kernel


end

end Sys2Proof.Tests
end

section
/-! The window straps through every operation of the part, in the order of the model's definitions: each leaves them as they are, so
that only power-on reset places the control window (R36). -/

namespace Sys2Proof.Machine

/-- A fold of operations that each leave the straps alone leaves them alone. -/
theorem foldl_straps {α : Type} {f : State → α → State} (hf : ∀ s a, (f s a).straps = s.straps) (l : List α) (s : State) :
    (l.foldl f s).straps = s.straps := by
  induction l generalizing s with
  | nil => rfl
  | cons a l ih => rw [List.foldl_cons, ih, hf]

/-! ### Reports -/

@[simp] theorem reportAdjusted_straps (s : State) (cause off : Nat) (v : Word) :
    (reportAdjusted s cause off v).straps = s.straps := rfl

@[simp] theorem rwRaise_straps (s : State) : (rwRaise s).straps = s.straps := by
  rw [rwRaise_only]

@[simp] theorem takeReport_straps (s : State) (r : Report) : (takeReport s r).straps = s.straps := by
  rw [takeReport_only]

@[simp] theorem takeAllReports_straps (s : State) : (takeAllReports s).straps = s.straps :=
  foldl_straps takeReport_straps s.rw.reports _

@[simp] theorem ringRestart_straps (s : State) : (ringRestart s).straps = s.straps := by
  rw [ringRestart_only]

/-! ### Banks and the copy engine -/

@[simp] theorem releaseBank_straps (s : State) (k : Fin 4) : (releaseBank s k).straps = s.straps := by
  rw [releaseBank_spec, setBank_straps]

@[simp] theorem markWritten_straps (s : State) (k : Fin 4) (seg : Nat) : (markWritten s k seg).straps = s.straps := by
  rcases markWritten_spec s k seg with ⟨_, h⟩ | ⟨_, h⟩
  · rw [h]
  · rw [h, setBank_straps, setMark_only]

@[simp] theorem copyAdvance_straps (s : State) (k : Fin 4) : (copyAdvance s k).straps = s.straps := by
  rw [copyAdvance_only]

@[simp] theorem copyStepEnd_straps (s : State) (k : Fin 4) : (copyStepEnd s k).straps = s.straps := by
  rw [copyStepEnd, copyAdvance_straps, setBank_straps]

@[simp] theorem supersedeReady_straps (s : State) : (supersedeReady s).straps = s.straps := by
  unfold supersedeReady
  split
  · rfl
  · rw [releaseBank_straps, report_straps]

@[simp] theorem closeFill_straps (s : State) (k : Fin 4) (n : BitVec 16) : (closeFill s k n).straps = s.straps := by
  unfold closeFill
  dsimp only
  split
  · rfl
  · split <;> rfl

@[simp] theorem takeCommit_straps (s : State) (n : BitVec 16) : (takeCommit s n).straps = s.straps := by
  unfold takeCommit
  split
  · rfl
  · split
    · rfl
    · rw [closeFill_straps, supersedeReady_straps]

@[simp] theorem takeCanvasWrite_straps (s : State) (seg : Nat) (lanes : List Lane) :
    (takeCanvasWrite s seg lanes).straps = s.straps := by
  rw [takeCanvasWrite_only]

@[simp] theorem retakeStalled_straps (s : State) : (retakeStalled s).straps = s.straps := by
  unfold retakeStalled
  split
  · split
    · rfl
    · rw [takeCanvasWrite_straps]
  · rfl

/-! ### Links -/

@[simp] theorem changeLink_straps (s : State) (l : Fin 24) (r : LinkRecord) (cause : LinkCause) :
    (changeLink s l r cause).straps = s.straps := by
  rw [changeLink_spec]

@[simp] theorem takePacket_straps (s : State) (l : Fin 24) (bytes : List RxByte) : (takePacket s l bytes).straps = s.straps := by
  unfold takePacket returnError
  dsimp only
  split
  · rfl
  · split
    · split <;> simp
    · rfl

@[simp] theorem checkLink_straps (count : Word) (expected : Option Tag) (limit : Nat) (s : State) (l : Fin 24) :
    (checkLink count expected limit s l).straps = s.straps := by
  unfold checkLink
  dsimp only
  repeat' split
  all_goals simp

@[simp] theorem checkLinks_straps (s : State) (count : Word) : (checkLinks s count).straps = s.straps :=
  foldl_straps (checkLink_straps count s.lsv.expected s.cc.missLimit) (List.finRange 24) s

@[simp] theorem noticeTaken_straps (s : State) (count : Word) : (noticeTaken s count).straps = s.straps := by
  rw [noticeTaken]

@[simp] theorem supervise_straps (s : State) (count : Word) : (supervise s count).straps = s.straps := by
  rw [supervise, noticeTaken_straps]
  split
  · rw [checkLinks_straps]
  · rfl

@[simp] theorem joinLink_straps (count : Word) (s : State) (l : Fin 24) : (joinLink count s l).straps = s.straps := by
  rcases joinLink_cases count s l with h | ⟨_, h⟩
  · rw [h]
  · rw [h, changeLink_straps, noteJoin_straps]

/-! ### Scan-out and the tile link transmitters -/

@[simp] theorem beginPacket_straps (s : State) (l : Fin 24) (p : Packet) : (beginPacket s l p).straps = s.straps := rfl

@[simp] theorem setPart_straps (s : State) (l : Fin 24) (p : Option Part) : (setPart s l p).straps = s.straps := by
  rw [setPart_spec]

@[simp] theorem soRaise_straps (s : State) : (soRaise s).straps = s.straps := by
  rw [soRaise_spec]

@[simp] theorem soWithdraw_straps (s : State) : (soWithdraw s).straps = s.straps := by
  rw [soWithdraw_spec]

@[simp] theorem placeLine_straps (s : State) (l : Fin 24) : (placeLine s l).straps = s.straps := by
  rcases placeLine_cases s l with h | ⟨_, _, _, _, _, _, h⟩ <;> rw [h]

@[simp] theorem assembleSegment_straps (s : State) (l : Fin 24) (data : List Byte) :
    (assembleSegment s l data).straps = s.straps := by
  unfold assembleSegment
  split
  · rfl
  · simp

@[simp] theorem startSend_straps (s : State) (count : Word) (kind : SendKind) (k : Fin 4) :
    (startSend s count kind k).straps = s.straps := by
  unfold startSend
  rw [soRaise_straps, foldl_straps (joinLink_straps count)]

@[simp] theorem sendReady_straps (s : State) : (sendReady s).1.straps = s.straps := by
  unfold sendReady
  split <;> rfl

@[simp] theorem resendShown_straps (s : State) : (resendShown s).1.straps = s.straps := by
  unfold resendShown
  split <;> rfl

@[simp] theorem attemptSend_straps (s : State) (count : Word) : (attemptSend s count).straps = s.straps := by
  unfold attemptSend
  split
  · next s1 k h => rw [startSend_straps, ← sendReady_straps s, h]
  · split
    · split
      · next s1 k h => rw [startSend_straps, ← resendShown_straps s, h]
      · rfl
    · rfl

@[simp] theorem giveMark_straps (m : Mark) (s : State) (l : Fin 24) : (giveMark m s l).straps = s.straps := by
  rw [giveMark_only]

@[simp] theorem giveMarks_straps (s : State) (n : FrameNotice) (m : Mark) : (giveMarks s n m).straps = s.straps := by
  unfold giveMarks
  exact foldl_straps (giveMark_straps m) (List.finRange 24) s

@[simp] theorem endSend_straps (s : State) (d : Send) : (endSend s d).straps = s.straps := by
  unfold endSend
  dsimp only
  rw [showSent_only]

@[simp] theorem showGate_straps (s : State) (d : Send) : (showGate s d).1.straps = s.straps := by
  unfold showGate
  split
  · rw [endSend_straps]
  · rfl

@[simp] theorem scanOutFrame_straps (s : State) (n : FrameNotice) : (scanOutFrame s n).straps = s.straps := by
  unfold scanOutFrame
  split
  · rfl
  · split
    · simp
    · split
      · simp
      · dsimp only
        split <;> simp

@[simp] theorem leaveSend_straps (s : State) (l : Fin 24) : (leaveSend s l).straps = s.straps := by
  unfold leaveSend
  split
  · rfl
  · dsimp only
    split <;> simp

@[simp] theorem resetWall_straps (s : State) : (resetWall s).straps = s.straps := soWithdraw_straps (freeAllBanks s)

@[simp] theorem finishPacket_straps (s : State) (l : Fin 24) (p : Packet) : (finishPacket s l p).straps = s.straps := by
  cases p with
  | line k =>
    unfold finishPacket finishLine
    repeat' split
    all_goals simp
  | mark m => rfl
  | idle => rfl

@[simp] theorem beginIdle_straps (s : State) (l : Fin 24) : (beginIdle s l).straps = s.straps := by
  rw [beginIdle, starveTest_only, beginPacket_straps]

@[simp] theorem nextPacket_straps (s : State) (l : Fin 24) : (nextPacket s l).straps = s.straps := by
  unfold nextPacket
  dsimp only
  repeat' split
  all_goals simp

/-! ### Tally and lighting -/

@[simp] theorem selectedEdge_straps (s : State) (i : Fin 8) (high : Bool) : (selectedEdge s i high).straps = s.straps := by
  unfold selectedEdge
  split <;> rfl

@[simp] theorem tallySample_straps (s : State) : (tallySample s).straps = s.straps := by
  unfold tallySample
  dsimp only
  split <;> rfl

@[simp] theorem retargetZones_straps (s : State) : (retargetZones s).straps = s.straps := by
  rw [retargetZones]

@[simp] theorem takeGains_straps (kind : GainsKind) (s : State) : (takeGains kind s).straps = s.straps := by
  rcases takeGains_cases kind s with h | ⟨_, _, _, h⟩
  · rw [h]
  · rw [h, retargetZones_straps]

@[simp] theorem stepFixtures_straps (s : State) : (stepFixtures s).straps = s.straps := by
  rw [stepFixtures]

@[simp] theorem composeLamp_straps (s : State) (l : Fin 2) : (composeLamp s l).straps = s.straps := by
  unfold composeLamp
  split <;> rfl

@[simp] theorem lightingFrame_straps (s : State) (n : FrameNotice) : (lightingFrame s n).straps = s.straps := by
  unfold lightingFrame
  rw [composeLamp_straps, composeLamp_straps]
  split
  · rfl
  · rw [stepFixtures_straps]

@[simp] theorem nextLampUnit_straps (s : State) (l : Fin 2) : (nextLampUnit s l).straps = s.straps := by
  unfold nextLampUnit
  repeat' split
  all_goals rfl

@[simp] theorem lampEnabled_straps (s : State) (l : Fin 2) : (lampEnabled s l).straps = s.straps := by
  unfold lampEnabled
  split <;> rfl

/-! ### The Reference Unit -/

@[simp] theorem reportRef_straps (s : State) (prev : Lock) (cause : RefCause) : (reportRef s prev cause).straps = s.straps := rfl

@[simp] theorem enterHoldover_straps (s : State) (cause : RefCause) : (enterHoldover s cause).straps = s.straps := by
  unfold enterHoldover
  dsimp only
  split <;> rfl

@[simp] theorem takeInterval_straps (s : State) (t d : Nat) : (takeInterval s t d).straps = s.straps := by
  unfold takeInterval countGood
  repeat' split
  · rfl
  · rw [enterHoldover_straps]
  all_goals rfl

@[simp] theorem takePulse_straps (s : State) (t : Nat) : (takePulse s t).straps = s.straps := by
  unfold takePulse
  dsimp only
  split
  · rfl
  · rw [takeInterval_straps, setRu_straps]

@[simp] theorem holdoverCount_straps (s : State) : (holdoverCount s).straps = s.straps := by
  unfold holdoverCount
  dsimp only
  repeat' split
  all_goals rfl

@[simp] theorem produceFrame_straps (s : State) (t : Nat) (freeRun : Bool) : (produceFrame s t freeRun).straps = s.straps :=
  holdoverCount_straps s

@[simp] theorem reachScheduled_straps (s : State) (e : Sched) (rest : List Sched) :
    (reachScheduled s e rest).straps = s.straps := by
  unfold reachScheduled
  dsimp only
  repeat' split
  all_goals simp

@[simp] theorem restartAcquire_straps (s : State) : (restartAcquire s).straps = s.straps := rfl

/-! ### Capture -/

@[simp] theorem takeWord_straps (s : State) (w : CWord) (m v : Word) : (takeWord s w m v).straps = s.straps := by
  rw [takeWord_only]

@[simp] theorem refuseWord_straps (s : State) (w : CWord) (cause : Nat) : (refuseWord s w cause).straps = s.straps := rfl

@[simp] theorem captureEnables_straps (s : State) (m : Word) : (captureEnables s m).straps = s.straps := by
  unfold captureEnables
  dsimp only
  repeat' split
  all_goals simp

@[simp] theorem captureLocked_straps (s : State) (w : CWord) (m v : Word) : (captureLocked s w m v).straps = s.straps := by
  unfold captureLocked
  repeat' split
  all_goals simp

@[simp] theorem captureRing_straps (s : State) (w : CWord) (m v : Word) : (captureRing s w m v).straps = s.straps := by
  unfold captureRing
  split <;> simp

@[simp] theorem captureMode_straps (s : State) (m : Word) : (captureMode s m).straps = s.straps := by
  unfold captureMode enterInternal enterAcquire
  dsimp only
  repeat' split
  all_goals simp

@[simp] theorem capturePeriod_straps (s : State) (m : Word) : (capturePeriod s m).straps = s.straps := by
  unfold capturePeriod internalPeriod
  dsimp only
  repeat' split
  all_goals simp

@[simp] theorem captureTolerance_straps (s : State) (m : Word) : (captureTolerance s m).straps = s.straps := by
  unfold captureTolerance
  dsimp only
  repeat' split
  all_goals simp

@[simp] theorem captureLamp_straps (s : State) (w : CWord) (l : Fin 2) (m : Word) : (captureLamp s w l m).straps = s.straps := by
  unfold captureLamp lampDisabled
  dsimp only
  repeat' split
  all_goals simp

@[simp] theorem captureSetting_straps (s : State) (i : Fin 20) (m : Word) : (captureSetting s i m).straps = s.straps := by
  unfold captureSetting
  split <;> simp

@[simp] theorem captureSelector_straps (s : State) (m : Word) : (captureSelector s m).straps = s.straps := by
  unfold captureSelector
  split <;> simp

@[simp] theorem captureConsumer_straps (s : State) (m : Word) : (captureConsumer s m).straps = s.straps := by
  unfold captureConsumer
  dsimp only
  split <;> simp

@[simp] theorem captureCommand_straps (s : State) (i : Fin 7) (m : Word) : (captureCommand s i m).straps = s.straps := by
  unfold captureCommand
  split
  · rw [takeCommit_straps, setShadow_straps]
  · rw [resetWall_straps, setShadow_straps]
  · rfl
  · rfl
  · rfl
  · rw [captureSelector_straps]
  · rw [captureConsumer_straps]

@[simp] theorem captureLook_straps (s : State) (i : Fin 2) (m : Word) : (captureLook s i m).straps = s.straps := by
  unfold captureLook
  dsimp only
  repeat' split
  all_goals rfl

@[simp] theorem linkEnableEffect_straps (s0 s : State) (l : Fin 24) : (linkEnableEffect s0 s l).straps = s.straps := by
  unfold linkEnableEffect linkEnabled linkDisabled txEnabled txDisabled
  repeat' split
  all_goals simp

@[simp] theorem captureTile_straps (s : State) (l : Fin 24) (i : Fin 32) (m : Word) : (captureTile s l i m).straps = s.straps := by
  unfold captureTile
  repeat' split
  all_goals simp

@[simp] theorem captureMerged_straps (s : State) (w : CWord) (m : Word) : (captureMerged s w m).straps = s.straps := by
  cases w with
  | setting i => exact captureSetting_straps s i m
  | command i => exact captureCommand_straps s i m
  | look i => exact captureLook_straps s i m
  | zone z i => exact takeWord_straps ..
  | fixture f i => exact takeWord_straps ..
  | tile l i => exact captureTile_straps s l i m

@[simp] theorem captureAt_straps (cells : List Host.Cell) (s : State) (off : Nat) : (captureAt cells s off).straps = s.straps := by
  unfold captureAt
  dsimp only
  repeat' split
  all_goals simp

@[simp] theorem entryWritten_straps (s : State) (i : Fin 128) : (entryWritten s i).straps = s.straps := by
  unfold entryWritten
  dsimp only
  split <;> rfl

@[simp] theorem captureQuarter_straps (cells : List Host.Cell) (s : State) (off : Nat) :
    (captureQuarter cells s off).straps = s.straps := by
  unfold captureQuarter
  dsimp only
  repeat' split
  all_goals simp

@[simp] theorem captureWrite_straps (s : State) (cells : List Host.Cell) (block : Nat) :
    (captureWrite s cells block).straps = s.straps :=
  foldl_straps (captureQuarter_straps cells) [block, block + 16, block + 32, block + 48] s

@[simp] theorem takeControlWrite_straps (s : State) (cells : List Host.Cell) (block : Nat) :
    (takeControlWrite s cells block).straps = s.straps := by
  rw [takeControlWrite, captureWrite_straps]

/-! ### The System Port

Where an operation splits on the class of an address, `s.classOf` is first rewritten to a variable: the kernel would unfold it to
compare the branches, and compute with the window's base in unary. -/

@[simp] theorem finishRequest_straps (s : State) (r : Response) : (finishRequest s r).straps = s.straps := rfl

@[simp] theorem noteDiscard_straps (s : State) (r : Request) (g : ShieldRange) : (noteDiscard s r g).straps = s.straps := by
  unfold noteDiscard
  dsimp only
  split
  · rfl
  · rw [report_straps]

@[simp] theorem noteDiscards_straps (s : State) (r : Request) (cells : List Host.Cell) :
    (noteDiscards s r cells).straps = s.straps := by
  unfold noteDiscards
  obtain ⟨classOf, h⟩ : ∃ f, f = s.classOf := ⟨_, rfl⟩
  rw [← h]
  split
  · rfl
  · split
    · rw [noteDiscard_straps]
    all_goals rfl

@[simp] theorem takeCanvasClass_straps (s : State) (cells : List Host.Cell) (a : Nat) :
    (takeCanvasClass s cells a).straps = s.straps := by
  unfold takeCanvasClass
  dsimp only
  split
  · rfl
  · rw [takeCanvasWrite_straps]

@[simp] theorem takeRemaining_straps (s : State) (cells : List Host.Cell) : (takeRemaining s cells).straps = s.straps := by
  unfold takeRemaining
  obtain ⟨classOf, h⟩ : ∃ f, f = s.classOf := ⟨_, rfl⟩
  rw [← h]
  split
  · rfl
  · split
    · rw [takeControlWrite_straps]
    · rw [takeCanvasClass_straps]
    · rw [takePlainWrite]
    · rw [finishRequest_straps]

@[simp] theorem takeWrite_straps (s : State) (r : Request) : (takeWrite s r).straps = s.straps := by
  unfold takeWrite
  split <;> simp

@[simp] theorem takeRequest_straps (s : State) (r : Request) : (takeRequest s r).straps = s.straps := by
  unfold takeRequest
  split
  · rfl
  · split
    · rfl
    · rw [takeWrite_straps]

@[simp] theorem takeArrived_straps (l : List Request) (s : State) : (takeArrived l s).straps = s.straps := by
  induction l generalizing s with
  | nil => rfl
  | cons r rs ih =>
    unfold takeArrived
    dsimp only
    split
    · rw [ih, takeRequest_straps]
    · rw [takeRequest_straps]

@[simp] theorem settlePort_straps (s : State) : (settlePort s).straps = s.straps := by
  unfold settlePort
  split <;> simp

@[simp] theorem arrive_straps (s : State) (t : Nat) (r : Request) : (arrive s t r).straps = s.straps :=
  settlePort_straps _

/-! ### The memory channel -/

@[simp] theorem place_straps (s : State) (a : Access) (ch : List Byte → Channel) : (place s a ch).straps = s.straps := by
  rw [place_only]

@[simp] theorem spFollow_straps (s : State) : (spFollow s).straps = s.straps := by
  unfold spFollow
  repeat' split
  all_goals simp

@[simp] theorem scanOutFollow_straps (s : State) (l : Fin 24) : (scanOutFollow s l).straps = s.straps := by
  unfold scanOutFollow
  dsimp only
  split <;> simp

@[simp] theorem grantScanOut_straps (s : State) : (grantScanOut s).straps = s.straps := by
  unfold grantScanOut
  split <;> simp

@[simp] theorem copyLands_straps (s : State) (k : Fin 4) (seg : Nat) (buffer : List Byte) :
    (copyLands s k seg buffer).straps = s.straps :=
  markWritten_straps s k seg

@[simp] theorem grantCopy_straps (s : State) : (grantCopy s).straps = s.straps := by
  unfold grantCopy
  dsimp only
  split
  · rw [place_straps]
  · split <;> simp
  all_goals rfl

@[simp] theorem reportFollow_straps (s : State) (c : RwClaim) : (reportFollow s c).straps = s.straps := by
  unfold reportFollow
  repeat' split
  all_goals rfl

@[simp] theorem grantReport_straps (s : State) : (grantReport s).straps = s.straps := by
  unfold grantReport
  split <;> simp

@[simp] theorem grant_straps (s : State) (c : Claimant) : (grant s c).straps = s.straps := by
  cases c with
  | sp => exact (spFollow_straps _).trans (place_straps ..)
  | scanOut => exact grantScanOut_straps s
  | copy => exact grantCopy_straps s
  | report => exact grantReport_straps s

@[simp] theorem readReturned_straps (s : State) (picks : List Pick) (got : Option (List Byte)) (data : List Byte) :
    (readReturned s picks got data).straps = s.straps := by
  unfold readReturned
  dsimp only
  split <;> simp

end Sys2Proof.Machine
end

section
/-! R36: the control window lies where the straps at power-on reset place it. -/

namespace Sys2Proof.Machine

/-! ### The straps after a command -/

@[simp] theorem powerOn_straps (straps : BitVec 2) (levels : BitVec 8) (mem : List Host.Cell) (arrived : List Request)
    (responses : List Response) (draws : Nat) (pending : List Instr) :
    (State.powerOn straps levels mem arrived responses draws pending).straps = straps := rfl

/-- Whatever state an outcome leaves behind has the straps of `s`. -/
def KeepsStraps (s : State) (r : Result) : Prop := ∀ t, r = .next t → t.straps = s.straps

theorem KeepsStraps.next {s t : State} (h : t.straps = s.straps) : KeepsStraps s (.next t) := by
  rintro _ ⟨⟩
  exact h

theorem KeepsStraps.fault (s : State) (f : Fault) : KeepsStraps s (.fault f) := by
  rintro _ ⟨⟩

theorem execArbiterGrant_keepsStraps (t : Nat) (s : State) : KeepsStraps s (execArbiterGrant t s) := by
  unfold execArbiterGrant
  dsimp only
  split
  · split
    · exact .next rfl
    · split
      · exact .next (grant_straps ..)
      · exact .fault s _
  · exact .next rfl

theorem execReportTaken_keepsStraps (m : Maker) (s : State) : KeepsStraps s (execReportTaken m s) := by
  unfold execReportTaken
  split
  · exact .next rfl
  · exact .next (takeReport_straps ..)

theorem execStatusBlockRewrite_keepsStraps (s : State) : KeepsStraps s (execStatusBlockRewrite s) := by
  unfold execStatusBlockRewrite
  split
  · exact .next rfl
  · exact .next (rwRaise_straps _)

theorem execReturnPacketArrival_keepsStraps (l : Fin 24) (bytes : List RxByte) (s : State) :
    KeepsStraps s (execReturnPacketArrival l bytes s) := by
  unfold execReturnPacketArrival
  dsimp only
  split
  · exact .next rfl
  · exact .next (takePacket_straps ..)

theorem execLinkCheck_keepsStraps (s : State) : KeepsStraps s (execLinkCheck s) := by
  unfold execLinkCheck
  split
  · exact .next rfl
  · exact .next (supervise_straps ..)

theorem execMarkNotice_keepsStraps (s : State) : KeepsStraps s (execMarkNotice s) := by
  unfold execMarkNotice
  split
  · exact .next rfl
  · split <;> exact .next rfl

theorem execSegmentDataReturn_keepsStraps (s : State) : KeepsStraps s (execSegmentDataReturn s) := by
  unfold execSegmentDataReturn
  dsimp only
  split
  · split
    · exact .next rfl
    · exact .next (assembleSegment_straps ..)
  · exact .next rfl

theorem execScanOutFrameEvent_keepsStraps (s : State) : KeepsStraps s (execScanOutFrameEvent s) := by
  unfold execScanOutFrameEvent
  split
  · exact .next rfl
  · exact .next (scanOutFrame_straps ..)

theorem execLeaveNotice_keepsStraps (s : State) : KeepsStraps s (execLeaveNotice s) := by
  unfold execLeaveNotice
  split
  · exact .next rfl
  · exact .next (leaveSend_straps ..)

theorem execRecoverNotice_keepsStraps (s : State) : KeepsStraps s (execRecoverNotice s) := by
  unfold execRecoverNotice
  split <;> exact .next rfl

theorem execWallGainNotice_keepsStraps (s : State) : KeepsStraps s (execWallGainNotice s) := by
  unfold execWallGainNotice
  dsimp only
  split
  · exact .next rfl
  · split <;> exact .next rfl

theorem execPacketFinish_keepsStraps (l : Fin 24) (s : State) : KeepsStraps s (execPacketFinish l s) := by
  unfold execPacketFinish
  split
  · exact .next rfl
  · exact .next (by simp)

theorem execTallyEdge_keepsStraps (i : Fin 8) (high : Bool) (s : State) : KeepsStraps s (execTallyEdge i high s) := by
  unfold execTallyEdge
  dsimp only
  split
  · exact .next rfl
  · split
    · exact .next (selectedEdge_straps ..)
    · exact .next rfl

theorem execTallySample_keepsStraps (s : State) : KeepsStraps s (execTallySample s) := by
  unfold execTallySample
  split
  · exact .next rfl
  · exact .next (tallySample_straps _)

theorem execShowNotice_keepsStraps (s : State) : KeepsStraps s (execShowNotice s) := by
  unfold execShowNotice
  split
  · exact .next rfl
  · exact .next (retargetZones_straps _)

theorem execEntryNotice_keepsStraps (s : State) : KeepsStraps s (execEntryNotice s) := by
  unfold execEntryNotice
  split
  · exact .next rfl
  · exact .next (setFixture_straps ..)

theorem execFadeStep_keepsStraps (s : State) : KeepsStraps s (execFadeStep s) := by
  unfold execFadeStep
  split
  · exact .next rfl
  · exact .next (lightingFrame_straps ..)

theorem execLampUnitFinish_keepsStraps (l : Fin 2) (s : State) : KeepsStraps s (execLampUnitFinish l s) := by
  unfold execLampUnitFinish
  split
  · exact .next rfl
  · exact .next (nextLampUnit_straps ..)
  · exact .next (nextLampUnit_straps ..)

theorem execReferencePulse_keepsStraps (t : Nat) (s : State) : KeepsStraps s (execReferencePulse t s) := by
  unfold execReferencePulse
  dsimp only
  split
  · exact .next rfl
  · exact .next (takePulse_straps ..)

theorem execPulseMissing_keepsStraps (s : State) : KeepsStraps s (execPulseMissing s) := by
  unfold execPulseMissing
  split
  · exact .next rfl
  · split
    · exact .next (enterHoldover_straps ..)
    · exact .next rfl

theorem execFrameEvent_keepsStraps (s : State) : KeepsStraps s (execFrameEvent s) := by
  unfold execFrameEvent
  split
  · exact .next rfl
  · exact .next (reachScheduled_straps ..)

theorem execDiscardFlagClear_keepsStraps (s : State) : KeepsStraps s (execDiscardFlagClear s) := by
  unfold execDiscardFlagClear
  split <;> exact .next rfl

theorem execMemoryWriteComplete_keepsStraps (s : State) : KeepsStraps s (execMemoryWriteComplete s) := by
  unfold execMemoryWriteComplete
  split <;> exact .next rfl

theorem execReadDataReturn_keepsStraps (t : Nat) (s : State) : KeepsStraps s (execReadDataReturn t s) := by
  unfold execReadDataReturn
  dsimp only
  split
  · exact .next (readReturned_straps ..)
  · exact .next rfl
  · exact .next rfl

theorem execPreReadDataReturn_keepsStraps (s : State) : KeepsStraps s (execPreReadDataReturn s) := by
  unfold execPreReadDataReturn
  split <;> exact .next rfl

theorem execCopyReadDataReturn_keepsStraps (s : State) : KeepsStraps s (execCopyReadDataReturn s) := by
  unfold execCopyReadDataReturn
  split
  · split
    · exact .next rfl
    · split <;> exact .next rfl
  · exact .next rfl

/-- R36: the straps are read at power-on reset alone. A System Port request, whatever word it names, is one arrival at the port; each
other command has its own meaning. -/
theorem exec_keepsStraps (c : Instr) (s : State) (hc : ∀ straps levels, c ≠ .powerOnReset straps levels) :
    KeepsStraps s (exec c s) := by
  cases c with
  | powerOnReset straps levels => exact absurd rfl (hc straps levels)
  | canvasWrite | canvasRead | plainRequest | shieldedWrite | settingWordWrite | runEnableSet | runEnableClear
  | copyForwardEnableWrite | attentionEnableWrite | canvasWidthWrite | canvasHeightWrite | canvasWindowBaseWrite
  | bankRegionBaseWrite | ringBaseWrite | ringSizeCodeWrite | orderCodeWrite | commit | wallReset | linkClear
  | referenceAcknowledge | tallyAcknowledge | lookEditSelector | ringConsumerIndex | modeWriteInternal | modeWriteExternal
  | acquireCountWrite | nominalPeriodWrite | toleranceWrite | phaseOffsetWrite | holdoverLimitWrite | tallyEdgeModesWrite
  | tallyRankWrite | cameraToLookWrite | wallGainWordWrite | lightingGainsWordWrite | zoneEntryWrite | fixtureEntryWrite
  | lampLinkEnableSet | lampLinkEnableClear | lampLinkSetupWrite | missLimitWrite | tileLinkEnableSet | tileLinkEnableClear
  | tileHeaderWrite | tileRecordWrite => exact .next (arrive_straps ..)
  | arbiterGrant t => exact execArbiterGrant_keepsStraps t s
  | memoryWriteComplete => exact execMemoryWriteComplete_keepsStraps s
  | readDataReturn t => exact execReadDataReturn_keepsStraps t s
  | preReadDataReturn => exact execPreReadDataReturn_keepsStraps s
  | segmentDataReturn => exact execSegmentDataReturn_keepsStraps s
  | copyReadDataReturn => exact execCopyReadDataReturn_keepsStraps s
  | frameEvent => exact execFrameEvent_keepsStraps s
  | referencePulse t => exact execReferencePulse_keepsStraps t s
  | pulseMissing => exact execPulseMissing_keepsStraps s
  | scanOutFrameEvent => exact execScanOutFrameEvent_keepsStraps s
  | leaveNotice => exact execLeaveNotice_keepsStraps s
  | recoverNotice => exact execRecoverNotice_keepsStraps s
  | wallGainNotice => exact execWallGainNotice_keepsStraps s
  | packetFinish l => exact execPacketFinish_keepsStraps l s
  | returnPacketArrival l bytes => exact execReturnPacketArrival_keepsStraps l bytes s
  | linkCheck => exact execLinkCheck_keepsStraps s
  | markNotice => exact execMarkNotice_keepsStraps s
  | tallyEdge i high => exact execTallyEdge_keepsStraps i high s
  | tallySample => exact execTallySample_keepsStraps s
  | showNotice => exact execShowNotice_keepsStraps s
  | lookNotice => exact .next (takeGains_straps ..)
  | lightingGainsNotice => exact .next (takeGains_straps ..)
  | entryNotice => exact execEntryNotice_keepsStraps s
  | fadeStep => exact execFadeStep_keepsStraps s
  | lampUnitFinish l => exact execLampUnitFinish_keepsStraps l s
  | statusBlockRewrite => exact execStatusBlockRewrite_keepsStraps s
  | discardFlagClear => exact execDiscardFlagClear_keepsStraps s
  | reportTaken m => exact execReportTaken_keepsStraps m s

/-! ### The control window among the ranges of R38 -/

theorem inRange_iff (a base len : Nat) : inRange a base len = true ↔ base ≤ a ∧ a < base + len := by
  simp [inRange]

/-- An address of one of two ranges that do not overlap is outside the other. -/
theorem not_inRange_of_not_overlap {a b1 n1 b2 n2 : Nat} (h : overlap b1 n1 b2 n2 = false) (ha : inRange a b2 n2 = true) :
    inRange a b1 n1 = false := by
  simp only [overlap, inRange, Bool.and_eq_true, Bool.and_eq_false_iff, decide_eq_true_eq, decide_eq_false_iff_not] at *
  omega

/-- The window ends at the end of a GiB: its base is not the truncated subtraction's 0. -/
theorem controlBase_add_size (straps : BitVec 2) : controlBase straps + 16384 = straps.toNat * 1073741824 + 1073741824 := by
  unfold controlBase
  omega

/-- The status block is the first range of R38, so no other range takes an address of it. -/
theorem classOf_statusBlock_iff (s : State) (a : Nat) :
    s.classOf a = .shielded .statusBlock ↔ inRange a (controlBase s.straps + 0x200) 0x100 = true := by
  unfold State.classOf
  split
  · next h => exact iff_of_true rfl h
  · next h =>
    refine iff_of_false ?_ h
    repeat' split
    all_goals exact nofun

/-- Offsets 0x200 to 0x2FF lie in the window's 16 KiB. -/
theorem inRange_window_of_statusBlock {base a : Nat} (h : inRange a (base + 0x200) 0x100 = true) :
    inRange a base 0x4000 = true := by
  rw [inRange_iff] at *
  omega

/-- The window holds the control class and the status block, and nothing else does, where the ring and the bank region are off it
(R38, R187). -/
theorem classOf_window_iff (s : State) (a : Nat) (hw : WindowClear s) :
    s.classOf a = .control ∨ s.classOf a = .shielded .statusBlock ↔ inRange a (controlBase s.straps) 0x4000 = true := by
  obtain ⟨ringClear, regionClear⟩ := hw
  constructor
  · rintro (h | h)
    · by_contra outside
      unfold State.classOf at h
      rw [if_neg outside] at h
      repeat' split at h
      all_goals cases h
    · exact inRange_window_of_statusBlock ((classOf_statusBlock_iff s a).mp h)
  · intro inside
    have offRing := not_inRange_of_not_overlap ringClear inside
    have offRegion := not_inRange_of_not_overlap regionClear inside
    by_cases status : inRange a (controlBase s.straps + 0x200) 0x100 = true
    · exact .inr ((classOf_statusBlock_iff s a).mpr status)
    · left
      unfold State.classOf
      rw [if_neg status, offRing, offRegion, inside]
      rfl

/-- Settles O14: every command but power-on reset keeps the straps, and the classes of R38 are read off at the base they place. -/
theorem strapsPlaceTheControlWindow : Obligations.StrapsPlaceTheControlWindow := by
  unfold Obligations.StrapsPlaceTheControlWindow
  refine ⟨fun straps levels s => ⟨_, rfl, powerOn_straps ..⟩, fun c s t hc => exec_keepsStraps c s hc t, controlBase_add_size,
    by decide, fun s a => ?_, fun s a hw => ?_⟩
  · rw [classOf_statusBlock_iff, inRange_iff]
  · rw [classOf_window_iff s a hw, inRange_iff]

end Sys2Proof.Machine
end

section
/-! R62 to R64: what a segment contributes to the sums of a zone. -/

namespace Sys2Proof.Machine

/-! ### Highlights and included pixels -/

@[simp] theorem isHighlight_none (p : RGB) : isHighlight none p = false := rfl

theorem isHighlight_some_iff (c : Nat) (p : RGB) :
    isHighlight (some c) p = true ↔ 64 * c + 32 ≤ p.r ∨ 64 * c + 32 ≤ p.g ∨ 64 * c + 32 ≤ p.b := by
  simp [isHighlight]

/-- The words of a segment's included pixels: the highlight test reads each word's components. -/
def includedWords (clip : Option Nat) (bytes : List Byte) : List Word :=
  (pixelsOf bytes).filter fun w => !isHighlight clip (pixelRGB w)

theorem includedPixels_eq_map (clip : Option Nat) (bytes : List Byte) :
    includedPixels clip bytes = (includedWords clip bytes).map pixelRGB :=
  List.filter_map

theorem length_includedWords_le (clip : Option Nat) (bytes : List Byte) : (includedWords clip bytes).length ≤ 16 :=
  calc (includedWords clip bytes).length
    _ ≤ (pixelsOf bytes).length := List.length_filter_le ..
    _ = 16 := by simp [pixelsOf]

/-! ### Sums of pixels -/

theorem RGB.foldl_add_eq (ps : List RGB) (x : RGB) :
    ps.foldl RGB.add x = ⟨x.r + (ps.map (·.r)).sum, x.g + (ps.map (·.g)).sum, x.b + (ps.map (·.b)).sum⟩ := by
  induction ps generalizing x with
  | nil => rfl
  | cons p ps ih => simp [ih, RGB.add, Nat.add_assoc]

/-- A sum of pixels is taken component by component, each read at its place in the word. -/
theorem sumPixels_map_pixelRGB (ws : List Word) :
    sumPixels (ws.map pixelRGB) =
      ⟨(ws.map (field · 0 10)).sum, (ws.map (field · 10 10)).sum, (ws.map (field · 20 10)).sum⟩ := by
  simp [sumPixels, RGB.foldl_add_eq, RGB.zero, pixelRGB, Function.comp_def]

theorem field_lt (w : Word) (lo len : Nat) : field w lo len < 2 ^ len := BitVec.isLt _

/-- At most 16 components of at most 1023 each. -/
theorem sum_includedWords_le (clip : Option Nat) (bytes : List Byte) (lo : Nat) :
    ((includedWords clip bytes).map (field · lo 10)).sum ≤ 16368 := by
  have component : ∀ v ∈ (includedWords clip bytes).map (field · lo 10), v ≤ 1023 := by
    intro v hv
    obtain ⟨w, -, rfl⟩ := List.mem_map.mp hv
    exact Nat.le_of_lt_succ (field_lt w lo 10)
  have bound := List.sum_le_card_nsmul _ _ component
  have count := length_includedWords_le clip bytes
  rw [List.length_map, smul_eq_mul] at bound
  omega

/-! ### Contributions to an accumulator and to a bank -/

theorem Acc.plus_eq (a : Acc) (clip : Option Nat) (bytes : List Byte) :
    let ws := includedWords clip bytes
    a.plus clip bytes = { a with
      sum := ⟨a.sum.r + (ws.map (field · 0 10)).sum, a.sum.g + (ws.map (field · 10 10)).sum,
        a.sum.b + (ws.map (field · 20 10)).sum⟩
      count := a.count + ws.length } := by
  simp [Acc.plus, RGB.add, includedPixels_eq_map, sumPixels_map_pixelRGB]

theorem RGB.add_add_sub_cancel (x y z : RGB) : ((x.add y).add z).sub y = x.add z := by
  simp only [RGB.add, RGB.sub, RGB.mk.injEq]
  omega

/-- Swapping out the content that was added leaves what the new content alone contributes: the truncated differences lose
nothing. -/
theorem Acc.plus_swap (a : Acc) (clip : Option Nat) (old new : List Byte) : (a.plus clip old).swap clip old new = a.plus clip new := by
  have count : ∀ m n k : Nat, m + n + k - n = m + k := by omega
  simp [Acc.plus, Acc.swap, RGB.add_add_sub_cancel, count]

theorem segmentInZone_iff (columns : Nat) (z : Zone) (seg : Nat) :
    segmentInZone columns z seg = true ↔
      z.enable = true ∧ (z.y0 ≤ seg / columns ∧ seg / columns ≤ z.y1) ∧ (z.s0 ≤ seg % columns ∧ seg % columns ≤ z.s1) := by
  simp [segmentInZone, and_assoc]

theorem addSegment_acc (columns : Nat) (b : Bank) (seg : Nat) (bytes : List Byte) (z : Fin 64) :
    (addSegment columns b seg bytes).acc[z] =
      if segmentInZone columns b.geom[z] seg then (b.acc[z]).plus (b.geom[z]).clip bytes else b.acc[z] := by
  simp [addSegment]

/-- Settles O58: the sums and the count run over the pixels that are no highlights, and only in the zones the segment belongs to. -/
theorem segmentsContributeTheirIncludedPixels : Obligations.SegmentsContributeTheirIncludedPixels := by
  unfold Obligations.SegmentsContributeTheirIncludedPixels
  refine ⟨fun clip p => ⟨?_, ?_⟩, fun a clip bytes => ?_, fun columns b seg bytes z => ⟨fun belongs => ?_, fun outside => ?_⟩⟩
  · rintro rfl
    exact isHighlight_none p
  · rintro c rfl
    exact isHighlight_some_iff c p
  · exact ⟨Acc.plus_eq a clip bytes, sum_includedWords_le clip bytes 0, sum_includedWords_le clip bytes 10,
      sum_includedWords_le clip bytes 20, length_includedWords_le clip bytes, Acc.plus_swap a clip bytes⟩
  · rw [addSegment_acc, if_pos ((segmentInZone_iff ..).mpr belongs)]
  · rw [addSegment_acc, if_neg (mt (segmentInZone_iff ..).mp outside)]

end Sys2Proof.Machine
end

section
/-! What every command keeps: the laws of O5 to O11, memory and the queue, in one relation between the states before and after
an operation, so that the operations of the part are gone through once for all the laws. -/

namespace Sys2Proof.Machine

/-! ### The relation -/

/-- From `s` to `t` every law of the part is kept, and nothing is written to memory or to the queue. A field left out of a proof
is one whose law does not read what changed. -/
structure KeepsLaws (s t : State) : Prop where
  mem : t.mem = s.mem := by exact rfl
  pending : t.pending = s.pending := by exact rfl
  bank : BankLaw s → BankLaw t := by exact fun h => h
  map : MapLaw s → MapLaw t := by exact fun h => h
  ring : RingLaw s → RingLaw t := by exact fun h => h
  settings : SettingsLaw s.cc → SettingsLaw t.cc := by exact fun h => h
  tables : SettingsLaw s.cc → TablesLaw s.cc → TablesLaw t.cc := by exact fun _ h => h
  placement : PlacementLaw s → PlacementLaw t := by exact fun h => h
  reference : ReferenceLaw s → ReferenceLaw t := by exact fun h => h
  supervision : SupervisionLaw s → SupervisionLaw t := by exact fun h => h
  starve : StarveLaw s → StarveLaw t := by exact fun h => h
  fade : FadeLaw s → FadeLaw t := by exact fun h => h
  arbiter : ArbiterLaw s → ArbiterLaw t := by exact fun h => h

/-- `KeepsLaws`, and the latched wall gain stays as it is: what every operation but a send start does (R101). -/
structure Keeps (s t : State) : Prop extends KeepsLaws s t where
  gain : t.so.gain = s.so.gain := by exact rfl

/-- `Keeps`, and the System Port stays as it is: what an operation of any other block does. -/
structure KeepsPort (s t : State) : Prop extends Keeps s t where
  port : t.port = s.port := by exact rfl

theorem Keeps.refl (s : State) : Keeps s s := {}

theorem KeepsLaws.trans {s t u : State} (h : KeepsLaws s t) (k : KeepsLaws t u) : KeepsLaws s u where
  mem := k.mem.trans h.mem
  pending := k.pending.trans h.pending
  bank := k.bank ∘ h.bank
  map := k.map ∘ h.map
  ring := k.ring ∘ h.ring
  settings := k.settings ∘ h.settings
  tables hs ht := k.tables (h.settings hs) (h.tables hs ht)
  placement := k.placement ∘ h.placement
  reference := k.reference ∘ h.reference
  supervision := k.supervision ∘ h.supervision
  starve := k.starve ∘ h.starve
  fade := k.fade ∘ h.fade
  arbiter := k.arbiter ∘ h.arbiter

theorem Keeps.trans {s t u : State} (h : Keeps s t) (k : Keeps t u) : Keeps s u :=
  { h.toKeepsLaws.trans k.toKeepsLaws with gain := k.gain.trans h.gain }

theorem KeepsPort.refl (s : State) : KeepsPort s s := {}

theorem KeepsPort.trans {s t u : State} (h : KeepsPort s t) (k : KeepsPort t u) : KeepsPort s u :=
  { h.toKeeps.trans k.toKeeps with port := k.port.trans h.port }

/-- A fold of operations that each keep the laws keeps them. -/
theorem KeepsPort.foldl {α : Type} {f : State → α → State} (hf : ∀ s a, KeepsPort s (f s a)) (l : List α) (s : State) :
    KeepsPort s (l.foldl f s) := by
  induction l generalizing s with
  | nil => exact .refl s
  | cons a l ih => exact (hf s a).trans (ih (f s a))

/-! ### What each law does not read -/

/-- `t` is `s` but for state that no law reads; the latched wall gain is as in `s`. -/
def quietly (s t : State) : State :=
  { s with
    wd := t.wd, nextMap := t.nextMap, tu := t.tu, lamps := t.lamps, draws := t.draws
    so := { t.so with send := s.so.send, claim := s.so.claim, links := s.so.links, gain := s.so.gain }
    lsv := { t.lsv with links := s.lsv.links, joined := s.lsv.joined, rates := s.lsv.rates, frames := s.lsv.frames }
    le := { t.le with fixtures := s.le.fixtures }
    rw := { t.rw with
      alloc := s.rw.alloc, prod := s.rw.prod, cons := s.rw.cons, queue := s.rw.queue, owed := s.rw.owed, claim := s.rw.claim } }

theorem KeepsPort.of_quietly {s t : State} (h : t = quietly s t) : KeepsPort s t := by
  rw [h]
  exact {}

theorem report_keeps (s : State) (k : ReportKind) (n : Nat) (a b : Word) : KeepsPort s (report s k n a b) := .of_quietly rfl

/-! ### The arbiter's counts -/

/-- With the port as it stands and no new data for it on the channel, the law of the arbiter asks of each claimant only that its
count has become 0, or stays with a claim that waited still waiting (R52). -/
theorem ArbiterLaw.of_counts {s t : State} (port : t.port = s.port)
    (channel : t.channel = s.channel ∨ ((∀ data, t.channel ≠ .spRead data) ∧ ∀ data, t.channel ≠ .preRead data))
    (counts : ∀ c, t.passed.get c = 0 ∨ (t.passed.get c = s.passed.get c ∧ (waiting s c = true → waiting t c = true)))
    (h : ArbiterLaw s) : ArbiterLaw t := by
  obtain ⟨idle, stalled, spRead, preRead, count⟩ := h
  refine ⟨port ▸ idle, port ▸ stalled, fun data hd => ?_, fun data hd => ?_, fun c => ?_⟩
  · rcases channel with hc | hc
    · rw [port]; exact spRead data (hc ▸ hd)
    · exact absurd hd (hc.1 data)
  · rcases channel with hc | hc
    · rw [port]; exact preRead data (hc ▸ hd)
    · exact absurd hd (hc.2 data)
  · obtain ⟨atMost, resting⟩ := count c
    rcases counts c with zero | ⟨same, wait⟩
    · exact ⟨by omega, fun _ => zero⟩
    · rw [same]
      refine ⟨atMost, fun hw => resting ?_⟩
      by_contra hs
      rw [wait (by simpa using hs)] at hw
      exact absurd hw (by decide)

/-- A Report Writer whose waiting claim, if any, still waits. -/
theorem KeepsPort.of_rw {s t : State} (h : t = { s with rw := t.rw }) (ring : RingLaw s → RingLaw t)
    (claim : s.rw.claim.isSome = true → t.rw.claim.isSome = true) : KeepsPort s t := by
  obtain ⟨v, rfl⟩ : ∃ v, t = { s with rw := v } := ⟨_, h⟩
  refine { ring, arbiter := ArbiterLaw.of_counts rfl (.inl rfl) fun c => .inr ⟨rfl, ?_⟩ }
  cases c with
  | report => exact claim
  | sp | scanOut | copy => exact fun h => h

/-! ### The report ring (R192 to R194) -/

/-- What the law of the ring says of the claim that waits (R194). -/
def RingClaimLaw (s : State) : Prop :=
  (s.rw.claim = some .index ↔ s.rw.owed.isSome = true) ∧ (s.rw.claim = some .record → s.rw.queue ≠ [])

/-- The three indices of a ring of `n` slots with `u` records between the producer and the allocation index (R193). -/
structure RingIndices (n alloc prod cons u : Nat) : Prop where
  alloc_lt : alloc < n
  prod_lt : prod < n
  cons_lt : cons < n
  follows : alloc = (prod + u) % n
  fits : (prod + n - cons) % n + u ≤ n - 1

/-- A remainder below twice the modulus. -/
theorem mod_cases {x n : Nat} (h : x < 2 * n) : (x < n ∧ x % n = x) ∨ (n ≤ x ∧ x % n = x - n) := by
  rcases Nat.lt_or_ge x n with lt | ge
  · exact .inl ⟨lt, Nat.mod_eq_of_lt lt⟩
  · exact .inr ⟨ge, by rw [Nat.mod_eq_sub_mod ge, Nat.mod_eq_of_lt (by omega)]⟩

/-- A record is allocated in a ring that is not full. -/
theorem RingIndices.push {n alloc prod cons u : Nat} (h : RingIndices n alloc prod cons u) (room : (alloc + 1) % n ≠ cons) :
    RingIndices n ((alloc + 1) % n) prod cons (u + 1) := by
  obtain ⟨halloc, hprod, hcons, follows, fits⟩ := h
  have next := mod_cases (x := alloc + 1) (n := n) (by omega)
  have shown := mod_cases (x := prod + u) (n := n) (by omega)
  have shown' := mod_cases (x := prod + (u + 1)) (n := n) (by omega)
  have used := mod_cases (x := prod + n - cons) (n := n) (by omega)
  exact ⟨Nat.mod_lt _ (by omega), hprod, hcons, by omega, by omega⟩

/-- The producer index advances over a record. -/
theorem RingIndices.advance {n alloc prod cons u : Nat} (h : RingIndices n alloc prod cons (u + 1)) :
    RingIndices n alloc ((prod + 1) % n) cons u := by
  obtain ⟨halloc, hprod, hcons, follows, fits⟩ := h
  have next := mod_cases (x := prod + 1) (n := n) (by omega)
  have used := mod_cases (x := prod + n - cons) (n := n) (by omega)
  have used' := mod_cases (x := (prod + 1) % n + n - cons) (n := n) (by omega)
  refine ⟨halloc, Nat.mod_lt _ (by omega), hcons, ?_, by omega⟩
  rw [follows, Nat.mod_add_mod, Nat.add_assoc, Nat.add_comm 1 u]

/-- The consumer index moves up to the producer index at most (R195). -/
theorem RingIndices.consume {n alloc prod cons u v : Nat} (h : RingIndices n alloc prod cons u) (hv : v < n)
    (upTo : (v + n - cons) % n ≤ (prod + n - cons) % n) : RingIndices n alloc prod v u := by
  obtain ⟨halloc, hprod, hcons, follows, fits⟩ := h
  have used := mod_cases (x := prod + n - cons) (n := n) (by omega)
  have left := mod_cases (x := prod + n - v) (n := n) (by omega)
  have gone := mod_cases (x := v + n - cons) (n := n) (by omega)
  exact ⟨halloc, hprod, hv, follows, by omega⟩

/-- What the law of the ring says of indices and records (R193). -/
def RingIndexLaw (s : State) : Prop :=
  let n := s.cc.ringSize
  (n = 0 → s.rw.alloc = 0 ∧ s.rw.prod = 0 ∧ s.rw.cons = 0 ∧ s.rw.queue = [] ∧ s.rw.owed = none)
    ∧ (0 < n → RingIndices n s.rw.alloc s.rw.prod s.rw.cons (unshown s)
        ∧ (∀ i, (h : i < s.rw.queue.length) → (s.rw.queue[i]).slot = (s.rw.prod + bit s.rw.owed.isSome + i) % n)
        ∧ (∀ v, s.rw.owed = some v → v = (s.rw.prod + 1) % n))
    ∧ s.rw.queue.length ≤ 64

theorem ringLaw_iff (s : State) : RingLaw s ↔ RingIndexLaw s ∧ RingClaimLaw s := by
  constructor
  · rintro ⟨off, on, short, claim⟩
    refine ⟨⟨off, fun hn => ?_, short⟩, claim⟩
    obtain ⟨alloc, prod, cons, slots, owed, follows, fits⟩ := on hn
    exact ⟨⟨alloc, prod, cons, follows, fits⟩, slots, owed⟩
  · rintro ⟨⟨off, on, short⟩, claim⟩
    refine ⟨off, fun hn => ?_, short, claim⟩
    obtain ⟨⟨alloc, prod, cons, follows, fits⟩, slots, owed⟩ := on hn
    exact ⟨alloc, prod, cons, slots, owed, follows, fits⟩

/-- What the Report Writer raises with no claim waiting meets the law of its claims. -/
theorem nextRwClaim_law (s : State) :
    (nextRwClaim s = some .index ↔ s.rw.owed.isSome = true) ∧ (nextRwClaim s = some .record → s.rw.queue ≠ []) := by
  unfold nextRwClaim
  by_cases owed : s.rw.owed.isSome = true
  · simp [owed]
  · rw [if_neg owed]
    cases firstOutstanding s with
    | some i => simp [owed]
    | none => cases hq : s.rw.queue <;> simp [owed]

theorem rwRaise_ringLaw {s : State} (index : RingIndexLaw s) (claim : s.rw.claim = none ∨ RingClaimLaw s) : RingLaw (rwRaise s) := by
  rw [ringLaw_iff]
  refine ⟨by rw [rwRaise_spec]; exact index, ?_⟩
  rw [rwRaise_spec]
  cases hc : s.rw.claim with
  | none => exact nextRwClaim_law s
  | some c =>
    have law : RingClaimLaw s := claim.resolve_left (by simp [hc])
    rw [RingClaimLaw, hc] at law
    exact law

theorem rwRaise_claim (s : State) (h : s.rw.claim.isSome = true) : (rwRaise s).rw.claim.isSome = true := by
  rw [rwRaise_spec]
  obtain ⟨c, hc⟩ := Option.isSome_iff_exists.mp h
  simp [hc]

theorem rwRaise_keeps (s : State) : KeepsPort s (rwRaise s) :=
  .of_rw (rwRaise_only s) (fun h => rwRaise_ringLaw ((ringLaw_iff s).mp h).1 (.inr ((ringLaw_iff s).mp h).2)) (rwRaise_claim s)

/-- A ring that is not full takes one record more behind those queued (R193). -/
theorem RingIndexLaw.queued {s : State} (r : Report) (on : s.cc.ringCode ≠ 0) (room : ringFull s = false)
    (short : s.rw.queue.length < 64) (h : RingIndexLaw s) :
    RingIndexLaw { s with rw := { s.rw with
      queue := s.rw.queue ++ [recordOf s r], lost := false, alloc := (s.rw.alloc + 1) % s.cc.ringSize } } := by
  obtain ⟨-, law, -⟩ := h
  have size : 0 < s.cc.ringSize := by simp [Shadow.ringSize, ringSizeOf, on]
  obtain ⟨indices, slots, owed⟩ := law size
  have room : (s.rw.alloc + 1) % s.cc.ringSize ≠ s.rw.cons := by simpa [ringFull] using room
  refine ⟨fun off => absurd off (Nat.ne_of_gt size), fun _ => ⟨?_, fun i hi => ?_, owed⟩, by simpa using short⟩
  · simpa [unshown, Nat.add_assoc] using indices.push room
  · simp only [List.length_append, List.length_cons, List.length_nil, Nat.zero_add] at hi
    rcases Nat.lt_or_eq_of_le (Nat.le_of_lt_succ hi) with lt | rfl
    · simp only [List.getElem_append_left lt]
      exact slots i lt
    · simp only [List.getElem_concat_length, recordOf, indices.follows, unshown, Nat.add_assoc]

theorem takeReport_keeps (s : State) (r : Report) : KeepsPort s (takeReport s r) := by
  rcases takeReport_cases s r with h | h | ⟨-, on, room, short, h⟩
  · rw [h]; exact .refl s
  · rw [h]; exact .of_quietly rfl
  · rw [h]
    refine .of_rw (by rw [rwRaise_spec]) (fun law => ?_) fun waits => rwRaise_claim _ waits
    obtain ⟨index, claim⟩ := (ringLaw_iff s).mp law
    exact rwRaise_ringLaw (index.queued r on room short) (.inr ⟨claim.1, fun _ => by simp⟩)

theorem takeAllReports_keeps (s : State) : KeepsPort s (takeAllReports s) :=
  have cleared : KeepsPort s { s with rw := { s.rw with reports := [] } } := .of_quietly rfl
  cleared.trans (.foldl takeReport_keeps s.rw.reports _)

theorem execReportTaken_keeps (m : Maker) (s : State) : ∀ t, execReportTaken m s = .next t → KeepsPort s t := by
  unfold execReportTaken
  rintro t h
  split at h <;> cases h
  · exact .refl s
  · exact KeepsPort.trans (.of_quietly rfl) (takeReport_keeps _ _)

theorem execStatusBlockRewrite_keeps (s : State) : ∀ t, execStatusBlockRewrite s = .next t → KeepsPort s t := by
  unfold execStatusBlockRewrite
  rintro t h
  split at h <;> cases h
  · exact .refl s
  · exact KeepsPort.trans (.of_quietly rfl) (rwRaise_keeps _)

/-- A ring restart meets the law of the ring from any state (R192). -/
theorem ringRestart_ringLaw (s : State) : RingLaw (ringRestart s) := by
  unfold ringRestart
  refine rwRaise_ringLaw ⟨fun _ => ⟨rfl, rfl, rfl, rfl, rfl⟩, fun hn => ⟨⟨hn, hn, hn, by simp [unshown, bit], ?_⟩, ?_, ?_⟩, by simp⟩ ?_
  · simp [unshown, bit]
  · simp
  · simp
  · unfold withdrawRingClaim
    split
    · exact .inl rfl
    · exact .inl rfl
    · next h => exact .inr (by simp [RingClaimLaw, h])
    · next h => exact .inl h

/-- A ring restart withdraws a claim only with its count at 0, so that the law of the arbiter stays (R52). -/
theorem ringRestart_arbiterLaw (s : State) (h : ArbiterLaw s) : ArbiterLaw (ringRestart s) := by
  refine h.of_counts (by rw [ringRestart_only]) (.inl (by rw [ringRestart_only])) fun c => ?_
  cases c with
  | sp | scanOut | copy =>
    refine .inr ⟨?_, fun h => by rw [ringRestart_only]; exact h⟩
    unfold ringRestart withdrawRingClaim
    rw [rwRaise_spec]
    split <;> rfl
  | report =>
    unfold ringRestart withdrawRingClaim
    cases hc : s.rw.claim with
    | none => exact .inr ⟨by rw [rwRaise_spec], fun h => by simp [waiting, hc] at h⟩
    | some c =>
      cases c with
      | index | record => exact .inl (by rw [rwRaise_spec]; rfl)
      | part i => exact .inr ⟨by rw [rwRaise_spec], fun _ => rwRaise_claim _ (by simp [hc])⟩

end Sys2Proof.Machine
end

section
/-! The bank table and the written maps: every operation of the Bank Manager keeps the laws. -/

namespace Sys2Proof.Machine

/-! ### Changes of one bank -/

theorem AtMostOne.mono {s t : State} {p : BankState → Bool} (h : AtMostOne s p)
    (kept : ∀ j : Fin 4, p (t.banks[j]).state = true → p (s.banks[j]).state = true) : AtMostOne t p :=
  fun i j hi hj => h i j (kept i hi) (kept j hj)

/-- A bank that comes to meet a condition is the only one, if no other meets it. -/
theorem AtMostOne.of_only {t : State} {p : BankState → Bool} (k : Fin 4)
    (others : ∀ j : Fin 4, j ≠ k → p (t.banks[j]).state = false) : AtMostOne t p := by
  have only : ∀ j : Fin 4, p (t.banks[j]).state = true → j = k := fun j hj => by
    by_contra ne
    rw [others j ne] at hj
    exact absurd hj (by decide)
  exact fun i j hi hj => (only i hi).trans (only j hj).symm

@[simp] theorem setBank_same (s : State) (k : Fin 4) (b : Bank) : (setBank s k b).banks[k] = b := put_same ..

theorem setBank_ne (s : State) {j k : Fin 4} (b : Bank) (h : j ≠ k) : (setBank s k b).banks[j] = s.banks[j] := put_ne _ _ _ _ h

/-- What a condition on the bank table asks of a bank replaced: it met the condition before, or no other bank does. -/
theorem AtMostOne.setBank {s : State} {p : BankState → Bool} (h : AtMostOne s p) (k : Fin 4) (b : Bank)
    (new : p b.state = true → p (s.banks[k]).state = true ∨ ∀ j : Fin 4, j ≠ k → p (s.banks[j]).state = false) :
    AtMostOne (setBank s k b) p := by
  by_cases hb : p b.state = true
  · rcases new hb with old | others
    · refine h.mono fun j hj => ?_
      by_cases e : j = k
      · rw [e]; exact old
      · rwa [setBank_ne s b e] at hj
    · exact .of_only k fun j e => by rw [setBank_ne s b e]; exact others j e
  · refine h.mono fun j hj => ?_
    by_cases e : j = k
    · rw [e, setBank_same] at hj; exact absurd hj hb
    · rwa [setBank_ne s b e] at hj

/-- A condition that at most one bank meets, met by one bank, is met by no other. -/
theorem AtMostOne.others {s : State} {p : BankState → Bool} (h : AtMostOne s p) {k : Fin 4} (hk : p (s.banks[k]).state = true)
    (j : Fin 4) (e : j ≠ k) : p (s.banks[j]).state = false := by
  by_contra hj
  exact e (h j k (by simpa using hj) hk)

/-- The clause of the law of the bank table on RETIRING banks (R23). -/
def RetiringLaw (s : State) : Prop :=
  ∀ k : Fin 4, (s.banks[k]).state = .retiring → ∃ j : Fin 4, (s.banks[j]).state.fills = true ∧ (s.banks[j]).src = some k

/-- What the law of the written maps adds to the law of the bank table (R4, R5). -/
def LendingLaw (s : State) : Prop :=
  (∀ k : Fin 4, lentTo s k ↔ (s.banks[k]).state.fills = true)
    ∧ (∀ k : Fin 4, ¬ (s.map0.lentTo = some k ∧ s.map1.lentTo = some k))
    ∧ (∀ k : Fin 4, (s.banks[k]).state.fills = true →
        (marksOf s k).Pairwise (· < ·) ∧ (s.banks[k]).written = (marksOf s k).length)

/-- After what keeps the laws, an operation of the Bank Manager: only the two laws of its tables and the arbiter's are to be looked
at. -/
theorem KeepsPort.then_banks {r s t : State} (pre : KeepsPort r s)
    (h : t = { s with
      banks := t.banks, map0 := t.map0, map1 := t.map1, nextMap := t.nextMap, copy := t.copy, passed := t.passed
      channel := t.channel })
    (bank : BankLaw r → BankLaw s → BankLaw t) (map : BankLaw r → BankLaw s → LendingLaw s → LendingLaw t)
    (arbiter : ArbiterLaw s → ArbiterLaw t) : KeepsPort r t := by
  have bank' : BankLaw r → BankLaw t := fun b => bank b (pre.bank b)
  have map' : MapLaw r → MapLaw t := fun b => ⟨bank' b.1, map b.1 (pre.map b).1 (pre.map b).2⟩
  have arbiter' : ArbiterLaw r → ArbiterLaw t := fun a => arbiter (pre.arbiter a)
  obtain ⟨b, m0, m1, n, c, p, ch, rfl⟩ : ∃ b m0 m1 n c p ch, t = { s with
      banks := b, map0 := m0, map1 := m1, nextMap := n, copy := c, passed := p, channel := ch } := ⟨_, _, _, _, _, _, _, h⟩
  exact { pre with bank := bank', map := map', arbiter := arbiter' }

/-- An operation of the Bank Manager. -/
theorem KeepsPort.of_banks {s t : State}
    (h : t = { s with
      banks := t.banks, map0 := t.map0, map1 := t.map1, nextMap := t.nextMap, copy := t.copy, passed := t.passed
      channel := t.channel })
    (bank : BankLaw s → BankLaw t) (map : BankLaw s → LendingLaw s → LendingLaw t) (arbiter : ArbiterLaw s → ArbiterLaw t) :
    KeepsPort s t :=
  (KeepsPort.refl s).then_banks h (fun _ => bank) (fun _ => map) arbiter

/-- A bank record with the state, the copy source and the written count it had. -/
theorem setBank_keeps (s : State) (k : Fin 4) (b : Bank) (state : b.state = (s.banks[k]).state) (src : b.src = (s.banks[k]).src)
    (written : b.written = (s.banks[k]).written) : KeepsPort s (setBank s k b) := by
  have same : ∀ j : Fin 4, ((setBank s k b).banks[j]).state = (s.banks[j]).state
      ∧ ((setBank s k b).banks[j]).src = (s.banks[j]).src ∧ ((setBank s k b).banks[j]).written = (s.banks[j]).written := by
    intro j
    by_cases e : j = k
    · rw [e, setBank_same]; exact ⟨state, src, written⟩
    · rw [setBank_ne s b e]; exact ⟨rfl, rfl, rfl⟩
  refine .of_banks rfl (fun law => ?_) (fun _ law => ?_) fun h => h
  · unfold BankLaw AtMostOne
    simp only [(same _).1, (same _).2.1]
    exact law
  · unfold LendingLaw
    simp only [(same _).1, (same _).2.2]
    exact law

/-- A bank that neither fills nor is sent gives way: FREE, or RETIRING while it is the copy source of the FILLING or SEALING bank
(R23). -/
theorem releaseBank_keeps (s : State) (k : Fin 4) (resting : (s.banks[k]).state.fills = false) : KeepsPort s (releaseBank s k) := by
  rw [releaseBank_spec]
  set b : Bank := if isCopySource s k = true then { s.banks[k] with state := .retiring } else (s.banks[k]).freed with hb
  have still : b.state = .retiring ∨ b.state = .free := by
    rw [hb]; split
    · exact .inl rfl
    · exact .inr rfl
  have none : ∀ p ∈ [BankState.fills, BankState.waits, BankState.sends, BankState.displays], p b.state ≠ true := by
    rcases still with h | h <;> rw [h] <;> decide
  have fills : ∀ j : Fin 4, ((setBank s k b).banks[j]).state.fills = (s.banks[j]).state.fills := by
    intro j
    by_cases e : j = k
    · rw [e, setBank_same, resting]; simpa using none _ (by simp)
    · rw [setBank_ne s b e]
  have filler : ∀ j : Fin 4, (s.banks[j]).state.fills = true → (setBank s k b).banks[j] = s.banks[j] := by
    intro j hj
    refine setBank_ne s b fun e => ?_
    rw [e, resting] at hj
    exact absurd hj (by decide)
  refine .of_banks rfl (fun ⟨f, w, se, d, r, n⟩ => ?_) (fun _ ⟨lent, once, marks⟩ => ?_) fun h => h
  · refine ⟨f.setBank k b fun h => absurd h (none _ (by simp)), w.setBank k b fun h => absurd h (none _ (by simp)),
      se.setBank k b fun h => absurd h (none _ (by simp)), d.setBank k b fun h => absurd h (none _ (by simp)), fun i hi => ?_,
      fun hs i => ?_⟩
    · by_cases e : i = k
      · rw [e, setBank_same] at hi
        have source : isCopySource s k = true := by
          by_contra h
          rw [hb, if_neg h] at hi
          exact absurd hi (by simp [Bank.freed])
        obtain ⟨j, -, hj⟩ := List.any_eq_true.mp source
        simp only [Bool.and_eq_true, Bool.or_eq_true, beq_iff_eq] at hj
        have hf : (s.banks[j]).state.fills = true := by rcases hj.1 with h | h <;> rw [h] <;> rfl
        exact ⟨j, by rw [filler j hf]; exact hf, by rw [filler j hf, e]; exact hj.2⟩
      · rw [setBank_ne s b e] at hi
        obtain ⟨j, hf, hj⟩ := r i hi
        exact ⟨j, by rw [filler j hf]; exact hf, by rw [filler j hf]; exact hj⟩
    · by_cases e : i = k
      · rw [e, setBank_same]; simpa using none BankState.sends (by simp)
      · rw [setBank_ne s b e]; exact n hs i
  · refine ⟨fun i => (lent i).trans (by rw [fills]), once, fun i hi => ?_⟩
    rw [fills] at hi
    rw [filler i hi]
    exact marks i hi

/-! ### Commit (R13 to R16) -/

theorem bankIn_some {s : State} {st : BankState} {k : Fin 4} (h : bankIn s st = some k) : (s.banks[k]).state = st := by
  simpa using ((findBank_spec s _).1 k h).1

theorem bankIn_none {s : State} {st : BankState} (h : bankIn s st = none) (j : Fin 4) : (s.banks[j]).state ≠ st := by
  simpa using (findBank_spec s _).2 h j

theorem supersedeReady_keeps (s : State) : KeepsPort s (supersedeReady s) := by
  unfold supersedeReady
  split
  · exact .refl s
  · next k h => exact (report_keeps s ..).trans (releaseBank_keeps _ k (by rw [report_banks, bankIn_some h]; rfl))

theorem releaseBank_ne (s : State) {j k : Fin 4} (e : j ≠ k) : (releaseBank s k).banks[j] = s.banks[j] := by
  rw [releaseBank_spec, setBank_ne _ _ e]

theorem releaseBank_state (s : State) (k : Fin 4) :
    ((releaseBank s k).banks[k]).state = .retiring ∨ ((releaseBank s k).banks[k]).state = .free := by
  rw [releaseBank_spec, setBank_same]
  split
  · exact .inl rfl
  · exact .inr rfl

/-- Superseding the READY bank leaves a FILLING bank as it is. -/
theorem supersedeReady_filling (s : State) (k : Fin 4) (h : (s.banks[k]).state = .filling) :
    (supersedeReady s).banks[k] = s.banks[k] := by
  unfold supersedeReady
  split
  · rfl
  · next j hj =>
    refine releaseBank_ne _ fun e => ?_
    subst e
    rw [bankIn_some hj] at h
    exact absurd h (by decide)

/-- With a bank FILLING, no bank waits once the READY one is superseded. -/
theorem supersedeReady_waits (s : State) (law : BankLaw s) (k : Fin 4) (h : (s.banks[k]).state = .filling) (j : Fin 4) :
    ((supersedeReady s).banks[j]).state.waits = false := by
  obtain ⟨fills, waits, -⟩ := law
  have unsealed : (s.banks[j]).state ≠ .sealing := fun hj => by
    have e : j = k := fills j k (by rw [hj]; rfl) (by rw [h]; rfl)
    rw [e, h] at hj
    exact absurd hj (by decide)
  have waits_iff : ∀ st : BankState, st.waits = true → st = .sealing ∨ st = .ready := by
    intro st; cases st <;> simp [BankState.waits]
  unfold supersedeReady
  split
  · next none =>
    by_contra hw
    exact (waits_iff _ (by simpa using hw)).elim unsealed (bankIn_none none j)
  · next i hi =>
    by_cases e : j = i
    · rw [e]
      rcases releaseBank_state (report s .frameDropped i.val (BitVec.ofNat 32 (hostNumber s.banks[i])) 0) i with h | h <;> rw [h] <;> rfl
    · rw [releaseBank_ne _ e]
      exact waits.others (k := i) (by rw [bankIn_some hi]; rfl) j e

theorem WrittenMap.release_if (m : WrittenMap) (k j : Fin 4) :
    ((if m.lentTo = some k then m.release else m).lentTo = some j ↔ m.lentTo = some j ∧ j ≠ k)
    ∧ (if m.lentTo = some k then m.release else m).marks = m.marks := by
  by_cases h : m.lentTo = some k
  · rw [if_pos h, h]
    exact ⟨by simpa [WrittenMap.release] using fun e : k = j => e.symm, rfl⟩
  · rw [if_neg h]
    exact ⟨⟨fun hj => ⟨hj, fun e => h (e ▸ hj)⟩, And.left⟩, rfl⟩

theorem lentTo_releaseMap (s : State) (k j : Fin 4) : lentTo (releaseMap s k) j ↔ lentTo s j ∧ j ≠ k := by
  unfold lentTo releaseMap
  dsimp only
  rw [(s.map0.release_if k j).1, (s.map1.release_if k j).1, or_and_right]

theorem marksOf_releaseMap (s : State) {j k : Fin 4} (e : j ≠ k) : marksOf (releaseMap s k) j = marksOf s j := by
  unfold marksOf releaseMap
  dsimp only
  simp only [(s.map0.release_if k j).1, (s.map1.release_if k j).1, (s.map0.release_if k j).2, (s.map1.release_if k j).2, and_iff_left e]

/-- A bank that stops filling, with its map released. -/
theorem LendingLaw.release {s : State} (k : Fin 4) (b : Bank) (rests : b.state.fills = false) (law : LendingLaw s) :
    LendingLaw (releaseMap (setBank s k b) k) := by
  obtain ⟨lent, once, marks⟩ := law
  have banks : ∀ j : Fin 4, j ≠ k → (releaseMap (setBank s k b) k).banks[j] = s.banks[j] := fun j e => setBank_ne s b e
  have at_k : (releaseMap (setBank s k b) k).banks[k] = b := setBank_same s k b
  refine ⟨fun j => ?_, fun j => ?_, fun j hj => ?_⟩
  · rw [lentTo_releaseMap]
    by_cases e : j = k
    · rw [e, at_k, rests]; simp
    · rw [banks j e, ← lent j]; exact and_iff_left e
  · rintro ⟨h0, h1⟩
    exact once j ⟨((s.map0.release_if k j).1.mp h0).1, ((s.map1.release_if k j).1.mp h1).1⟩
  · have e : j ≠ k := fun e => by rw [e, at_k, rests] at hj; exact absurd hj (by decide)
    rw [banks j e] at hj ⊢
    rw [marksOf_releaseMap _ e]
    exact marks j hj

/-- A bank that goes on filling in another state, with the copy source and the written count it had. -/
theorem LendingLaw.refill {s : State} (k : Fin 4) (b : Bank) (fills : b.state.fills = (s.banks[k]).state.fills)
    (written : b.written = (s.banks[k]).written) (law : LendingLaw s) : LendingLaw (setBank s k b) := by
  have same : ∀ j : Fin 4, ((setBank s k b).banks[j]).state.fills = (s.banks[j]).state.fills
      ∧ ((setBank s k b).banks[j]).written = (s.banks[j]).written := by
    intro j
    by_cases e : j = k
    · rw [e, setBank_same]; exact ⟨fills, written⟩
    · rw [setBank_ne s b e]; exact ⟨rfl, rfl⟩
  unfold LendingLaw
  simp only [(same _).1, (same _).2]
  exact law

/-- The FILLING or SEALING bank goes on to a state in which it waits, with no copy source left unless it still fills. -/
theorem BankLaw.wait {s : State} (k : Fin 4) (b : Bank) (fills : (s.banks[k]).state.fills = true) (waits : b.state.waits = true)
    (src : b.src = (s.banks[k]).src) (sealing : b.state.fills = true ∨ b.src = none)
    (others : ∀ j : Fin 4, j ≠ k → (s.banks[j]).state.waits = false) (law : BankLaw s) : BankLaw (setBank s k b) := by
  obtain ⟨f, w, se, d, r, n⟩ := law
  have quiet : b.state.sends = false ∧ b.state.displays = false ∧ b.state ≠ .retiring := by
    revert waits; cases b.state <;> decide
  refine ⟨f.setBank k b fun _ => .inl fills, w.setBank k b fun _ => .inr others, se.setBank k b fun h => ?_,
    d.setBank k b fun h => ?_, fun i hi => ?_, fun hs i => ?_⟩
  · rw [quiet.1] at h; exact absurd h (by decide)
  · rw [quiet.2.1] at h; exact absurd h (by decide)
  · have e : i ≠ k := fun e => by rw [e, setBank_same] at hi; exact quiet.2.2 hi
    rw [setBank_ne s b e] at hi
    obtain ⟨j, hj, hsrc⟩ := r i hi
    obtain rfl : j = k := f j k hj fills
    refine ⟨j, ?_, ?_⟩
    · rw [setBank_same]
      refine sealing.resolve_right fun none => ?_
      rw [← src, none] at hsrc
      exact absurd hsrc (by simp)
    · rw [setBank_same, src]; exact hsrc
  · by_cases e : i = k
    · rw [e, setBank_same]; exact quiet.1
    · rw [setBank_ne s b e]; exact n hs i

theorem closeFill_keeps {r s : State} (pre : KeepsPort r s) (k : Fin 4) (n : BitVec 16) (filling : (s.banks[k]).state = .filling)
    (clear : BankLaw r → ∀ j : Fin 4, (s.banks[j]).state.waits = false) : KeepsPort r (closeFill s k n) := by
  have fills : (s.banks[k]).state.fills = true := by rw [filling]; rfl
  unfold closeFill
  dsimp only
  split
  · exact pre.then_banks rfl (fun hr => .wait k _ fills rfl rfl (.inl rfl) fun j _ => clear hr j)
      (fun _ _ => .refill k _ (by rw [fills]; rfl) rfl) fun h => h
  · next noSource =>
    have ready : KeepsPort r (releaseMap (setBank s k { s.banks[k] with state := .ready, host := some n }) k) :=
      pre.then_banks rfl
        (fun hr => .wait k _ fills rfl rfl (.inr (by simpa using noSource)) fun j _ => clear hr j)
        (fun _ _ => .release k _ rfl) fun h => h
    split
    · exact ready.trans (report_keeps ..)
    · exact ready

theorem takeCommit_keeps (s : State) (n : BitVec 16) : KeepsPort s (takeCommit s n) := by
  unfold takeCommit
  split
  · exact report_keeps ..
  · split
    · exact report_keeps ..
    · next k hk =>
      have filling := bankIn_some hk
      exact closeFill_keeps (supersedeReady_keeps s) k n (by rw [supersedeReady_filling s k filling, filling])
        fun law => supersedeReady_waits s law k filling

end Sys2Proof.Machine
end

section
/-! The copy engine, opening, steering and the wall reset: every operation of the Bank Manager on a fill keeps the laws. -/

namespace Sys2Proof.Machine

/-! ### The copy engine (R17 to R22) -/

/-- Going idle puts the Copy count to 0 (R52). -/
theorem copyIdle_arbiterLaw (s : State) (h : ArbiterLaw s) : ArbiterLaw (copyIdle s) := by
  refine ArbiterLaw.of_counts (s := s) rfl (.inl rfl) (fun c => ?_) h
  cases c with
  | copy => exact .inl rfl
  | sp | scanOut | report => exact .inr ⟨rfl, fun h => h⟩

theorem freeRetired_banks (s : State) (j i : Fin 4) :
    (freeRetired s j).banks[i] = if i = j ∧ (s.banks[i]).state = .retiring then (s.banks[i]).freed else s.banks[i] := by
  unfold freeRetired
  split
  · next h =>
    by_cases e : i = j
    · subst e; exact (setBank_same ..).trans (if_pos ⟨rfl, h⟩).symm
    · exact (setBank_ne s _ e).trans (if_neg fun c => e c.1).symm
  · next h => exact (if_neg fun ⟨e, c⟩ => h (e ▸ c)).symm

/-- The filling bank's copy source is gone, and the source freed if it was RETIRING (R20). -/
def sourceGone (s : State) (k : Fin 4) : State :=
  match (s.banks[k]).src with
  | none => setBank s k { s.banks[k] with src := none }
  | some j => freeRetired (setBank s k { s.banks[k] with src := none }) j

theorem copyComplete_eq (s : State) (k : Fin 4) : copyComplete s k = sealComplete (copyIdle (sourceGone s k)) k := by
  unfold copyComplete sourceGone
  cases (s.banks[k]).src with
  | none => rfl
  | some j =>
    dsimp only
    congr 1
    unfold freeRetired
    split
    · next h => rw [if_pos (show ((setBank s k { s.banks[k] with src := none }).banks[j]).state = .retiring from h)]; rfl
    · next h => rw [if_neg (show ¬ ((setBank s k { s.banks[k] with src := none }).banks[j]).state = .retiring from h)]

theorem sourceGone_same (s : State) (k : Fin 4) (fills : (s.banks[k]).state.fills = true) :
    (sourceGone s k).banks[k] = { s.banks[k] with src := none } := by
  unfold sourceGone
  split
  · exact setBank_same ..
  · rw [freeRetired_banks, setBank_same, if_neg]
    rintro ⟨-, h⟩
    rw [show (s.banks[k]).state = .retiring from h] at fills
    exact absurd fills (by decide)

theorem sourceGone_ne (s : State) (k i : Fin 4) (e : i ≠ k) :
    (sourceGone s k).banks[i]
      = if (s.banks[k]).src = some i ∧ (s.banks[i]).state = .retiring then (s.banks[i]).freed else s.banks[i] := by
  unfold sourceGone
  cases h : (s.banks[k]).src with
  | none => simpa using setBank_ne s _ e
  | some j =>
    dsimp only
    rw [freeRetired_banks, setBank_ne s _ e]
    simp only [Option.some.injEq, eq_comm (a := i)]

theorem sourceGone_only (s : State) (k : Fin 4) : sourceGone s k = { s with banks := (sourceGone s k).banks } := by
  unfold sourceGone
  split
  · rfl
  · rw [freeRetired_only]; rfl

/-- A bank with its source gone, or freed from RETIRING, meets no condition that it did not meet. -/
theorem sourceGone_mono (s : State) (k : Fin 4) (fills : (s.banks[k]).state.fills = true) (p : BankState → Bool)
    (free : p .free = false) (i : Fin 4) (h : p ((sourceGone s k).banks[i]).state = true) : p (s.banks[i]).state = true := by
  by_cases e : i = k
  · subst e; rw [sourceGone_same s i fills] at h; exact h
  · rw [sourceGone_ne s k i e] at h
    split at h
    · rw [show p (Bank.freed _).state = p .free from rfl, free] at h; exact absurd h (by decide)
    · exact h

/-- The banks that fill stay with their written counts. -/
theorem sourceGone_fills (s : State) (k : Fin 4) (fills : (s.banks[k]).state.fills = true) (i : Fin 4) :
    ((sourceGone s k).banks[i]).state.fills = (s.banks[i]).state.fills
    ∧ ((s.banks[i]).state.fills = true → ((sourceGone s k).banks[i]).written = (s.banks[i]).written) := by
  by_cases e : i = k
  · subst e; rw [sourceGone_same s i fills]; exact ⟨rfl, fun _ => rfl⟩
  · rw [sourceGone_ne s k i e]
    split
    · next h => rw [h.2]; exact ⟨rfl, fun h => absurd h (by decide)⟩
    · exact ⟨rfl, fun _ => rfl⟩

theorem sourceGone_keeps (s : State) (k : Fin 4) (fills : (s.banks[k]).state.fills = true) : KeepsPort s (sourceGone s k) := by
  refine .of_banks (by rw [sourceGone_only]) (fun ⟨f, w, se, d, r, n⟩ => ?_) (fun _ ⟨lent, once, marks⟩ => ?_)
    (fun h => by rw [sourceGone_only]; exact h)
  · have mono := sourceGone_mono s k fills
    refine ⟨f.mono (mono _ rfl), w.mono (mono _ rfl), se.mono (mono _ rfl), d.mono (mono _ rfl), fun i hi => ?_, fun hs i => ?_⟩
    · exfalso
      have ne : i ≠ k := fun e => by
        subst e
        rw [sourceGone_same s i fills] at hi
        rw [show (s.banks[i]).state = .retiring from hi] at fills
        exact absurd fills (by decide)
      rw [sourceGone_ne s k i ne] at hi
      split at hi
      · exact absurd hi (by simp [Bank.freed])
      · next kept =>
        obtain ⟨j, hj, src⟩ := r i hi
        obtain rfl : j = k := f j k hj fills
        exact kept ⟨src, hi⟩
    · rw [sourceGone_only] at hs
      by_contra h
      have := mono _ rfl i (by simpa using h)
      rw [n hs i] at this
      exact absurd this (by decide)
  · have maps : ∀ i, marksOf (sourceGone s k) i = marksOf s i := fun i => by rw [sourceGone_only]; rfl
    have same := sourceGone_fills s k fills
    refine ⟨fun i => ?_, by rw [sourceGone_only]; exact once, fun i hi => ?_⟩
    · rw [(same i).1, ← lent i, sourceGone_only]; rfl
    · rw [(same i).1] at hi
      rw [maps, (same i).2 hi]
      exact marks i hi

theorem setProgress_keeps (s : State) (k : Fin 4) (p : Nat) : KeepsPort s (setBank s k { s.banks[k] with progress := p }) :=
  setBank_keeps s k _ rfl rfl rfl

theorem copyIdle_keeps (s : State) : KeepsPort s (copyIdle s) := .of_banks rfl (fun h => h) (fun _ h => h) (copyIdle_arbiterLaw s)

/-- A SEALING bank with no copy source becomes READY (R21). -/
theorem sealComplete_keeps (s : State) (k : Fin 4) (src : (s.banks[k]).src = none) : KeepsPort s (sealComplete s k) := by
  rcases sealComplete_spec s k with h | ⟨sealing, h⟩ <;> rw [h]
  · exact .refl s
  · have waits : (s.banks[k]).state.waits = true := by rw [sealing]; rfl
    exact .of_banks rfl
      (fun law => BankLaw.wait k _ (by rw [sealing]; rfl) rfl rfl (.inr src) (law.2.1.others waits) law)
      (fun _ => .release k _ rfl) fun h => h

theorem copyComplete_keeps (s : State) (k : Fin 4) (fills : (s.banks[k]).state.fills = true) : KeepsPort s (copyComplete s k) := by
  rw [copyComplete_eq]
  refine ((sourceGone_keeps s k fills).trans (copyIdle_keeps _)).trans (sealComplete_keeps _ k ?_)
  show ((sourceGone s k).banks[k]).src = none
  rw [sourceGone_same s k fills]

/-- The engine takes up a claim, or goes on without one. -/
theorem wantRead_keeps (s : State) : KeepsPort s { s with copy := .wantRead } :=
  .of_banks rfl (fun h => h) (fun _ h => h) (ArbiterLaw.of_counts rfl (.inl rfl) fun c => by
    cases c with
    | copy => exact .inr ⟨rfl, fun _ => rfl⟩
    | sp | scanOut | report => exact .inr ⟨rfl, fun h => h⟩)

theorem copyAdvance_keeps (s : State) (k : Fin 4) (fills : (s.banks[k]).state.fills = true) : KeepsPort s (copyAdvance s k) := by
  unfold copyAdvance
  dsimp only
  split
  · exact (setProgress_keeps s k _).trans (wantRead_keeps _)
  · exact (setProgress_keeps s k _).trans (copyComplete_keeps _ k (by rw [setBank_same]; exact fills))

theorem copyStepEnd_keeps (s : State) (k : Fin 4) (fills : (s.banks[k]).state.fills = true) : KeepsPort s (copyStepEnd s k) :=
  (setProgress_keeps s k _).trans (copyAdvance_keeps _ k (by rw [setBank_same]; exact fills))

end Sys2Proof.Machine
end

section
/-! Opening, marking, steering and the wall reset keep the laws. -/

namespace Sys2Proof.Machine

/-! ### Opening (R7, R8) -/

theorem marksOf_lendMap_self (s : State) (k : Fin 4) (none : ¬ lentTo s k) : marksOf (lendMap s k) k = [] := by
  unfold lentTo at none
  push Not at none
  unfold marksOf lendMap
  split <;> simp [none.1]

/-- With no bank filling and so no map lent, a bank opens with the next map (R4). -/
theorem LendingLaw.open {s : State} (k : Fin 4) (b : Bank) (fills : b.state.fills = true) (written : b.written = 0)
    (none : ∀ j : Fin 4, (s.banks[j]).state.fills = false) (law : LendingLaw s) : LendingLaw (lendMap (setBank s k b) k) := by
  obtain ⟨lent, once, -⟩ := law
  have free : ∀ j, ¬ lentTo s j := fun j h => by
    rw [lent j, none j] at h; exact absurd h (by decide)
  have banks : (lendMap (setBank s k b) k).banks = (setBank s k b).banks := by rw [lendMap_only]
  have lent' : ∀ j, lentTo (lendMap (setBank s k b) k) j ↔ j = k := fun j => by
    have no := free j
    unfold lentTo at no ⊢
    push Not at no
    unfold lendMap
    split <;> simp [no.1, no.2, eq_comm]
  have only : ∀ j : Fin 4, ((setBank s k b).banks[j]).state.fills = true → j = k := fun j hj => by
    by_contra e
    rw [setBank_ne s b e, none j] at hj
    exact absurd hj (by decide)
  refine ⟨fun j => ?_, fun j => ?_, fun j hj => ?_⟩
  · rw [lent', banks]
    exact ⟨fun e => by rw [e, setBank_same]; exact fills, only j⟩
  · have no := free j
    unfold lentTo at no
    push Not at no
    unfold lendMap
    split <;> simp [no.1, no.2]
  · rw [banks] at hj ⊢
    obtain rfl := only j hj
    rw [marksOf_lendMap_self (setBank s j b) j (free j), setBank_same]
    exact ⟨.nil, written⟩

theorem openBank_keeps (s : State) (k : Fin 4)
    (none : ∀ j : Fin 4, (s.banks[j]).state.fills = false) : KeepsPort s (openBank s k) := by
  have opened : KeepsPort s (lendMap (setBank s k (openRecord s)) k) := by
    have banks : (lendMap (setBank s k (openRecord s)) k).banks = (setBank s k (openRecord s)).banks := by rw [lendMap_only]
    refine .of_banks (by rw [lendMap_only]; rfl) (fun ⟨f, w, se, d, r, n⟩ => ?_)
      (fun _ => .open k (openRecord s) rfl rfl none) fun h => by rw [lendMap_only]; exact h
    have law : BankLaw (setBank s k (openRecord s)) := by
      refine ⟨f.setBank k _ fun _ => .inr fun j _ => none j, w.setBank k _ fun h => absurd h (by simp [openRecord, BankState.waits]),
        se.setBank k _ fun h => absurd h (by simp [openRecord, BankState.sends]),
        d.setBank k _ fun h => absurd h (by simp [openRecord, BankState.displays]), fun i hi => ?_, fun hs i => ?_⟩
      · by_cases e : i = k
        · rw [e, setBank_same] at hi; exact absurd hi (by simp [openRecord])
        · rw [setBank_ne s _ e] at hi
          obtain ⟨j, hj, -⟩ := r i hi
          rw [none j] at hj
          exact absurd hj (by decide)
      · by_cases e : i = k
        · rw [e, setBank_same]; rfl
        · rw [setBank_ne s _ e]; exact n hs i
    rw [lendMap_only]
    exact law
  unfold openBank
  dsimp only
  split
  · refine opened.trans (copyAdvance_keeps _ k ?_)
    rw [lendMap_only]
    show ((setBank s k (openRecord s)).banks[k]).state.fills = true
    rw [setBank_same]
    rfl
  · exact opened

/-! ### Marks (R5) -/

theorem length_insertMark (l : List Nat) (n : Nat) (h : n ∉ l) : (insertMark l n).length = l.length + 1 := by
  induction l with
  | nil => rfl
  | cons m ms ih =>
    simp only [List.mem_cons, not_or] at h
    obtain ⟨ne, h⟩ := h
    unfold insertMark
    rw [if_neg ne]
    split
    · rfl
    · rw [List.length_cons, ih h, List.length_cons]

theorem pairwise_insertMark (l : List Nat) (n : Nat) (h : l.Pairwise (· < ·)) : (insertMark l n).Pairwise (· < ·) := by
  induction l with
  | nil => exact List.pairwise_singleton ..
  | cons m ms ih =>
    obtain ⟨above, rest⟩ := List.pairwise_cons.mp h
    unfold insertMark
    split
    · next lt => exact List.pairwise_cons.mpr ⟨fun x hx => by
        rcases List.mem_cons.mp hx with rfl | hx
        · exact lt
        · exact lt.trans (above x hx), h⟩
    · split
      · exact h
      · refine List.pairwise_cons.mpr ⟨fun x hx => ?_, ih rest⟩
        rcases (mem_insertMark ms n x).mp hx with rfl | hx
        · omega
        · exact above x hx

theorem marksOf_setMark (s : State) (k : Fin 4) (seg : Nat) (lent : lentTo s k) :
    marksOf (setMark s k seg) k = insertMark (marksOf s k) seg := by
  unfold marksOf setMark
  by_cases h0 : s.map0.lentTo = some k
  · simp [h0]
  · have h1 : s.map1.lentTo = some k := lent.resolve_left h0
    simp [h0, h1]

theorem marksOf_setMark_ne (s : State) {j k : Fin 4} (seg : Nat) (e : j ≠ k) : marksOf (setMark s k seg) j = marksOf s j := by
  unfold marksOf setMark
  by_cases h0 : s.map0.lentTo = some k
  · simp [h0, e.symm]
  · by_cases h1 : s.map1.lentTo = some k
    · simp [h0, h1, e.symm]
    · simp [h0, h1]

theorem setMark_lentTo (s : State) (k : Fin 4) (seg : Nat) :
    (setMark s k seg).map0.lentTo = s.map0.lentTo ∧ (setMark s k seg).map1.lentTo = s.map1.lentTo := by
  unfold setMark
  split
  · exact ⟨rfl, rfl⟩
  · split <;> exact ⟨rfl, rfl⟩

theorem markWritten_keeps (s : State) (k : Fin 4) (seg : Nat) (fills : (s.banks[k]).state.fills = true) :
    KeepsPort s (markWritten s k seg) := by
  rcases markWritten_spec s k seg with ⟨-, h⟩ | ⟨clear, h⟩ <;> rw [h]
  · exact .refl s
  set b : Bank := { s.banks[k] with written := (s.banks[k]).written + 1 } with hb
  have state : b.state = (s.banks[k]).state := rfl
  have src : b.src = (s.banks[k]).src := rfl
  have banks : (setBank (setMark s k seg) k b).banks = (setBank s k b).banks := by rw [setMark_only]; rfl
  have same : ∀ j : Fin 4, ((setBank s k b).banks[j]).state = (s.banks[j]).state
      ∧ ((setBank s k b).banks[j]).src = (s.banks[j]).src := by
    intro j
    by_cases e : j = k
    · subst e; rw [setBank_same]; exact ⟨state, src⟩
    · rw [setBank_ne s b e]; exact ⟨rfl, rfl⟩
  refine .of_banks (by rw [setMark_only]; rfl) (fun law => ?_) (fun _ ⟨lent, once, marks⟩ => ?_)
    fun h => by rw [setMark_only]; exact h
  · have law' : BankLaw (setBank s k b) := by
      unfold BankLaw AtMostOne
      simp only [(same _).1, (same _).2]
      exact law
    rw [setMark_only]
    exact law'
  · obtain ⟨lent0, lent1⟩ := setMark_lentTo s k seg
    refine ⟨fun j => ?_, fun j => ?_, fun j hj => ?_⟩
    · rw [banks, (same j).1, ← lent j]
      show (setMark s k seg).map0.lentTo = some j ∨ (setMark s k seg).map1.lentTo = some j ↔ _
      rw [lent0, lent1]
      rfl
    · show ¬ ((setMark s k seg).map0.lentTo = some j ∧ (setMark s k seg).map1.lentTo = some j)
      rw [lent0, lent1]
      exact once j
    · rw [banks, (same j).1] at hj
      obtain ⟨rising, count⟩ := marks j hj
      rw [banks]
      show (marksOf (setMark s k seg) j).Pairwise (· < ·) ∧ _ = (marksOf (setMark s k seg) j).length
      by_cases e : j = k
      · subst e
        rw [marksOf_setMark s j seg ((lent j).mpr hj), setBank_same]
        have unmarked : seg ∉ marksOf s j := by simpa [isMarked] using clear
        exact ⟨pairwise_insertMark _ seg rising, by rw [length_insertMark _ seg unmarked, hb, count]⟩
      · rw [marksOf_setMark_ne s seg e, setBank_ne s b e]
        exact ⟨rising, count⟩

/-! ### The System Port's phase and claim (R34) -/

/-- The port rests: IDLE, or a canvas write held in SEAL_STALL. -/
def Resting (s : State) : Prop := s.port.phase = .idle ∨ ∃ seg lanes, s.port.phase = .sealStall seg lanes

/-- A port that waits for no data takes up any state, with no claim in IDLE and SEAL_STALL. -/
theorem ArbiterLaw.of_port {s : State} (p : Port) (count : s.passed.sp = 0 ∨ p.claim = true)
    (spRead : ∀ data, s.channel ≠ .spRead data) (preRead : ∀ data, s.channel ≠ .preRead data)
    (idle : p.phase = .idle → p.claim = false) (stalled : ∀ seg lanes, p.phase = .sealStall seg lanes → p.claim = false)
    (law : ArbiterLaw s) : ArbiterLaw { s with port := p } := by
  obtain ⟨-, -, -, -, counts⟩ := law
  refine ⟨idle, stalled, fun data h => absurd h (spRead data), fun data h => absurd h (preRead data), fun c => ?_⟩
  cases c with
  | sp =>
    refine ⟨(counts .sp).1, fun h => ?_⟩
    exact count.resolve_right fun hc => absurd (hc.symm.trans (h : p.claim = false)) (by decide)
  | scanOut | copy | report => exact counts _

theorem Keeps.of_port {s : State} (p : Port) (rests : Resting s) (idle : p.phase = .idle → p.claim = false)
    (stalled : ∀ seg lanes, p.phase = .sealStall seg lanes → p.claim = false) : Keeps s { s with port := p } := by
  refine { arbiter := fun law => ?_ }
  have claim : s.port.claim = false := by
    rcases rests with h | ⟨seg, lanes, h⟩
    · exact law.1 h
    · exact law.2.1 seg lanes h
  refine law.of_port p (.inl ((law.2.2.2.2 .sp).2 claim)) (fun data h => ?_) (fun data h => ?_) idle stalled
  · obtain ⟨-, picks, got, phase⟩ := law.2.2.1 data h
    rcases rests with h | ⟨seg, lanes, h⟩ <;> exact absurd (phase.symm.trans h) (by simp)
  · obtain ⟨-, bank, src, seg, lanes, rewrite, phase⟩ := law.2.2.2.1 data h
    rcases rests with h | ⟨seg, lanes, h⟩ <;> exact absurd (phase.symm.trans h) (by simp)

theorem KeepsPort.resting {s t : State} (h : KeepsPort s t) (rests : Resting s) : Resting t := by
  unfold Resting
  rw [h.port]
  exact rests

/-- The port claims an access for a request that it has taken up. -/
theorem claim_keeps {s : State} (p : Port) (rests : Resting s) (busy : p.phase ≠ .idle) (moving : ∀ seg lanes, p.phase ≠ .sealStall seg lanes) :
    Keeps s { s with port := p } :=
  .of_port p rests (fun h => absurd h busy) fun seg lanes h => absurd h (moving seg lanes)

theorem addSegment_rest (columns : Nat) (b : Bank) (seg : Nat) (bytes : List Byte) :
    (addSegment columns b seg bytes).state = b.state ∧ (addSegment columns b seg bytes).src = b.src
      ∧ (addSegment columns b seg bytes).written = b.written := by
  simp only [addSegment, and_self]

theorem addSegment_keeps (s : State) (columns : Nat) (k : Fin 4) (seg : Nat) (bytes : List Byte) :
    KeepsPort s (setBank s k (addSegment columns s.banks[k] seg bytes)) :=
  have ⟨state, src, written⟩ := addSegment_rest columns s.banks[k] seg bytes
  setBank_keeps s k _ state src written

/-! ### Steering (R9 to R11, R43, R44) -/

theorem steerWrite_keeps (s : State) (k : Fin 4) (seg : Nat) (lanes : List Lane) (rests : Resting s)
    (fills : (s.banks[k]).state.fills = true) : Keeps s (steerWrite s k seg lanes) := by
  have marked := markWritten_keeps s k seg fills
  unfold steerWrite
  dsimp only
  generalize markWritten s k seg = s1 at marked ⊢
  split
  · exact claim_keeps _ rests (by simp) (by simp)
  · split
    · have added := marked.trans (addSegment_keeps s1 s.cc.columns k seg (lanes.map fun l => l.getD 0))
      generalize setBank s1 k _ = s2 at added ⊢
      exact added.toKeeps.trans (claim_keeps _ (added.resting rests) (by simp) (by simp))
    · exact marked.toKeeps.trans (claim_keeps _ (marked.resting rests) (by simp) (by simp))

theorem lendMap_banks (s : State) (k : Fin 4) : (lendMap s k).banks = s.banks := by rw [lendMap_only]

theorem sealComplete_filling (s : State) (k : Fin 4) (h : (s.banks[k]).state = .filling) :
    sealComplete s k = s := by
  unfold sealComplete
  rw [if_neg (by rw [h]; decide)]

/-- The copy engine's advance leaves a FILLING bank FILLING. -/
theorem copyAdvance_filling (s : State) (k : Fin 4) (h : (s.banks[k]).state = .filling) :
    ((copyAdvance s k).banks[k]).state = .filling := by
  unfold copyAdvance
  dsimp only
  generalize skipMarked _ _ _ _ = p
  split
  · exact (congrArg Bank.state (setBank_same s k _)).trans h
  · rw [copyComplete_eq]
    set s1 := setBank s k { s.banks[k] with progress := p } with hs1
    have filling : (s1.banks[k]).state = .filling := by rw [hs1, setBank_same]; exact h
    have gone : ((copyIdle (sourceGone s1 k)).banks[k]).state = .filling := by
      show ((sourceGone s1 k).banks[k]).state = .filling
      rw [sourceGone_same s1 k (by rw [filling]; rfl)]
      exact filling
    rw [sealComplete_filling _ k gone]
    exact gone

theorem openBank_filling (s : State) (k : Fin 4) : ((openBank s k).banks[k]).state = .filling := by
  have opened : ((lendMap (setBank s k (openRecord s)) k).banks[k]).state = .filling := by
    rw [lendMap_banks, setBank_same]; rfl
  unfold openBank
  dsimp only
  split
  · exact copyAdvance_filling _ k opened
  · exact opened

theorem takeCanvasWrite_keeps (s : State) (seg : Nat) (lanes : List Lane) (rests : Resting s) :
    Keeps s (takeCanvasWrite s seg lanes) := by
  have held : Keeps s { s with port := { s.port with phase := .sealStall seg lanes, claim := false } } :=
    .of_port _ rests (by simp) (by simp)
  unfold takeCanvasWrite
  split
  · next k h => exact steerWrite_keeps s k seg lanes rests (by rw [bankIn_some h]; rfl)
  · next noFilling =>
    dsimp only
    split
    · exact held
    · next noSealing =>
      split
      · next k _ =>
        have none : ∀ j : Fin 4, (s.banks[j]).state.fills = false := fun j => by
          have := bankIn_none noFilling j
          have := bankIn_none noSealing j
          cases h : (s.banks[j]).state <;> simp_all [BankState.fills]
        have opened := openBank_keeps s k none
        exact opened.toKeeps.trans (steerWrite_keeps _ k seg lanes (opened.resting rests) (by rw [openBank_filling]; rfl))
      · exact held

theorem retakeStalled_keeps (s : State) : Keeps s (retakeStalled s) := by
  unfold retakeStalled
  split
  · next seg lanes h =>
    split
    · exact .refl s
    · exact takeCanvasWrite_keeps s seg lanes (.inr ⟨seg, lanes, h⟩)
  · exact .refl s

end Sys2Proof.Machine
end

section
/-! The Scan-Out Engine, the tile link transmitters and the wall reset keep the laws. -/

namespace Sys2Proof.Machine

/-! ### What the Scan-Out Engine changes -/

/-- After what keeps the laws, an operation of the Scan-Out Engine: the clause of the law of the bank table on sends (R97, R99), the
law of starvation and the Scan-Out claim are to be looked at. -/
theorem KeepsPort.then_send {r s t : State} (pre : KeepsPort r s)
    (h : t = { s with so := { t.so with gain := s.so.gain }, tx := t.tx, passed := t.passed, channel := t.channel })
    (send : BankLaw r → BankLaw s → t.so.send = none → ∀ k : Fin 4, (s.banks[k]).state.sends = false)
    (starve : StarveLaw s → StarveLaw t) (arbiter : ArbiterLaw s → ArbiterLaw t) : KeepsPort r t := by
  have starve' : StarveLaw r → StarveLaw t := fun a => starve (pre.starve a)
  have arbiter' : ArbiterLaw r → ArbiterLaw t := fun a => arbiter (pre.arbiter a)
  obtain ⟨o, x, p, c, rfl⟩ : ∃ (o : ScanOut) (x : Vector Transmitter 24) (p : Passed) (c : Channel),
      t = { s with so := { o with gain := s.so.gain }, tx := x, passed := p, channel := c } := ⟨_, _, _, _, h⟩
  have bank' : BankLaw r → BankLaw { s with so := { o with gain := s.so.gain }, tx := x, passed := p, channel := c } := fun hr =>
    have ⟨f, w, se, d, ret, _⟩ := pre.bank hr
    ⟨f, w, se, d, ret, send hr (pre.bank hr)⟩
  exact { pre with bank := bank', map := fun hr => ⟨bank' hr.1, (pre.map hr).2⟩, starve := starve', arbiter := arbiter' }

theorem KeepsPort.of_send {s t : State} (h : t = { s with so := { t.so with gain := s.so.gain }, tx := t.tx, passed := t.passed, channel := t.channel })
    (send : t.so.send = none → s.so.send = none) (starve : StarveLaw s → StarveLaw t)
    (arbiter : ArbiterLaw s → ArbiterLaw t) : KeepsPort s t :=
  (KeepsPort.refl s).then_send h (fun _ law none => law.2.2.2.2.2 (send none)) starve arbiter

/-- A waiting Scan-Out claim still waits; the other claims are not touched. -/
theorem ArbiterLaw.of_scanOut {s t : State} (h : t = { s with so := t.so, tx := t.tx }) (claim : s.so.claim = true → t.so.claim = true)
    (law : ArbiterLaw s) : ArbiterLaw t := by
  obtain ⟨o, x, rfl⟩ : ∃ o x, t = { s with so := o, tx := x } := ⟨_, _, h⟩
  refine ArbiterLaw.of_counts (s := s) rfl (.inl rfl) (fun c => .inr ⟨rfl, ?_⟩) law
  cases c with
  | scanOut => exact claim
  | sp | copy | report => exact fun h => h

theorem soRaise_keeps (s : State) : KeepsPort s (soRaise s) := by
  rw [soRaise_spec]
  exact .of_send rfl (fun h => h) (fun h => h) (ArbiterLaw.of_scanOut rfl fun h => by simp [h])

/-- The data of a read on the channel may come to be discarded without the law of the arbiter noticing. -/
theorem discards_arbiterLaw {s t : State} (h : t = { s with channel := t.channel })
    (channel : t.channel = s.channel ∨ ((∀ data, t.channel ≠ .spRead data) ∧ ∀ data, t.channel ≠ .preRead data))
    (law : ArbiterLaw s) : ArbiterLaw t := by
  obtain ⟨c, rfl⟩ : ∃ c, t = { s with channel := c } := ⟨_, h⟩
  exact ArbiterLaw.of_counts (s := s) rfl channel (fun _ => .inr ⟨rfl, fun h => h⟩) law

theorem soWithdraw_arbiterLaw (s : State) (law : ArbiterLaw s) : ArbiterLaw (soWithdraw s) := by
  rw [soWithdraw_spec]
  refine ArbiterLaw.of_counts (s := s) rfl (.inl rfl) (fun c => ?_) law
  cases c with
  | scanOut =>
    cases h : s.so.claim
    · exact .inr ⟨rfl, fun w => absurd (h.symm.trans (w : s.so.claim = true)) (by decide)⟩
    · exact .inl rfl
  | sp | copy | report => exact .inr ⟨by dsimp only; split <;> rfl, fun h => h⟩

theorem soWithdraw_keeps (s : State) : KeepsPort s (soWithdraw s) :=
  .of_send (by rw [soWithdraw_spec]) (by rw [soWithdraw_spec]; exact fun h => h) (by rw [soWithdraw_spec]; exact fun h => h)
    (soWithdraw_arbiterLaw s)

/-! ### Starvation (R113) -/

/-- What the law of starvation asks of one link, by its flags, its part and its stage. -/
def Starves (r : ScanLink) (p : Option Part) (x : Transmitter) : Prop :=
  r.starved = true → p.isSome = true ∧ r.primed = true ∧ x.stage = none

theorem starveLaw_iff (s : State) : StarveLaw s ↔ ∀ l : Fin 24, Starves s.so.links[l] (partOf s l) s.tx[l] := Iff.rfl

/-- A transmitter whose stage is as it was, or empty. -/
theorem setTx_keeps (s : State) (l : Fin 24) (x : Transmitter) (stage : x.stage = (s.tx[l]).stage ∨ x.stage = none) :
    KeepsPort s (setTx s l x) := by
  refine .of_send rfl (fun h => h) (fun law i starved => ?_) fun h => h
  obtain ⟨part, primed, empty⟩ := law i starved
  refine ⟨part, primed, ?_⟩
  by_cases e : i = l
  · subst e
    rw [setTx_tx, put_same]
    exact stage.elim (·.trans empty) id
  · rw [setTx_tx, put_ne _ _ _ _ e]
    exact empty

theorem beginPacket_keeps (s : State) (l : Fin 24) (p : Packet) : KeepsPort s (beginPacket s l p) := setTx_keeps s l _ (.inl rfl)

theorem giveMark_keeps (m : Mark) (s : State) (l : Fin 24) : KeepsPort s (giveMark m s l) := by
  unfold giveMark
  split
  · exact .refl s
  · split
    · exact beginPacket_keeps ..
    · exact setTx_keeps s l _ (.inl rfl)

theorem giveMarks_keeps (s : State) (n : FrameNotice) (m : Mark) : KeepsPort s (giveMarks s n m) :=
  (KeepsPort.foldl (giveMark_keeps m) (List.finRange 24) s).trans (.of_quietly rfl)

theorem partOf_setPart (s : State) (l i : Fin 24) (p : Option Part) :
    partOf (setPart s l p) i = if i = l then s.so.send.bind fun _ => p else partOf s i := by
  rw [setPart_spec]
  unfold partOf
  cases s.so.send with
  | none => simp
  | some d =>
    simp only [Option.map_some, Option.bind_some]
    split
    · next e => subst e; exact put_same ..
    · next e => exact put_ne _ _ _ _ e

/-- A part replaced by another leaves its link in the send. -/
theorem setPart_keeps (s : State) (l : Fin 24) (p : Part) : KeepsPort s (setPart s l (some p)) := by
  refine .of_send (by rw [setPart_spec]) (by rw [setPart_spec]; simp) (fun law i starved => ?_)
    (ArbiterLaw.of_scanOut (by rw [setPart_spec]) (by rw [setPart_spec]; exact fun h => h))
  rw [setPart_spec] at starved
  obtain ⟨part, primed, empty⟩ := law i starved
  refine ⟨?_, by rw [setPart_spec]; exact primed, by rw [setPart_spec]; exact empty⟩
  rw [partOf_setPart]
  split
  · unfold partOf at part
    cases h : s.so.send with
    | none => rw [h] at part; exact absurd part (by simp)
    | some d => rfl
  · exact part

theorem placeLine_keeps (s : State) (l : Fin 24) : KeepsPort s (placeLine s l) := by
  rcases placeLine_cases s l with h | ⟨d, p, send, part, -, -, h⟩ <;> rw [h]
  · exact .refl s
  · refine .of_send rfl (by simp) (fun law i starved => ?_) (ArbiterLaw.of_scanOut rfl fun h => h)
    have ne : i ≠ l := fun e => by
      subst e; rw [put_same] at starved; exact absurd starved (by simp)
    rw [put_ne _ _ _ _ ne] at starved
    obtain ⟨part, primed, empty⟩ := law i starved
    unfold partOf at part
    rw [send] at part
    refine ⟨?_, ?_, ?_⟩
    · show ((put d.parts l (some p.advance))[i]).isSome = true
      rw [put_ne _ _ _ _ ne]; exact part
    · show ((put s.so.links l _)[i]).primed = true
      rw [put_ne _ _ _ _ ne]; exact primed
    · show ((put s.tx l _)[i]).stage = none
      rw [put_ne _ _ _ _ ne]; exact empty

theorem assembleSegment_keeps (s : State) (l : Fin 24) (data : List Byte) : KeepsPort s (assembleSegment s l data) := by
  unfold assembleSegment
  split
  · exact .refl s
  · exact ((setPart_keeps s l _).trans (placeLine_keeps _ l)).trans (soRaise_keeps _)

theorem starveTest_keeps (s : State) (l : Fin 24) : KeepsPort s (starveTest s l) := by
  unfold starveTest
  split
  · exact .refl s
  · next p part =>
    dsimp only
    split
    · next test =>
      obtain ⟨-, primed, empty, -⟩ := test
      refine .of_send rfl (fun h => h) (fun law i starved => ?_) (ArbiterLaw.of_scanOut rfl fun h => h)
      by_cases e : i = l
      · subst e
        refine ⟨?_, ?_, ?_⟩
        · show (partOf s i).isSome = true
          rw [part]; rfl
        · show ((put s.so.links i _)[i]).primed = true
          rw [put_same]; exact primed
        · exact Option.isNone_iff_eq_none.mp empty
      · rw [setScanLink_so] at starved ⊢
        rw [put_ne _ _ _ _ e] at starved ⊢
        exact law i starved
    · exact .refl s

theorem beginIdle_keeps (s : State) (l : Fin 24) : KeepsPort s (beginIdle s l) :=
  (beginPacket_keeps s l .idle).trans (starveTest_keeps _ l)

theorem finishPacket_keeps (s : State) (l : Fin 24) (p : Packet) : KeepsPort s (finishPacket s l p) := by
  unfold finishPacket finishLine
  split
  · split
    · exact .refl s
    · split
      · exact .refl s
      · split
        · exact setPart_keeps s l _
        · exact .refl s
  · exact .refl s
  · exact .refl s

theorem nextPacket_keeps (s : State) (l : Fin 24) : KeepsPort s (nextPacket s l) := by
  unfold nextPacket
  dsimp only
  split
  · exact setTx_keeps s l _ (.inl rfl)
  · split
    · exact (setTx_keeps s l { s.tx[l] with mark := none } (.inl rfl)).trans (beginPacket_keeps ..)
    · split
      · exact (((setTx_keeps s l { s.tx[l] with stage := none } (.inr rfl)).trans (beginPacket_keeps ..)).trans (placeLine_keeps _ l)).trans (soRaise_keeps _)
      · exact beginIdle_keeps s l

/-! ### Sends (R98, R99, R101) -/

@[simp] theorem partOf_none (s : State) (h : s.so.send = none) (l : Fin 24) : partOf s l = none := by
  unfold partOf
  rw [h]

/-- With every starved flag clear the law of starvation holds. -/
theorem starveLaw_of_clear {s : State} (clear : ∀ l : Fin 24, (s.so.links[l]).starved = false) : StarveLaw s := fun l h => by
  rw [clear l] at h
  exact absurd h (by decide)

theorem getElem_tabulate_fin {α : Type} {n : Nat} (f : Fin n → α) (i : Fin n) : (tabulate f)[i] = f i := by simp

theorem leaveSend_keeps (s : State) (l : Fin 24) : KeepsPort s (leaveSend s l) := by
  unfold leaveSend
  split
  · exact .refl s
  · next p part =>
    dsimp only
    set s1 := setPart s l none with hs1
    set s3 := setScanLink (setTx s1 l { s1.tx[l] with stage := none }) l
      { (setTx s1 l { s1.tx[l] with stage := none }).so.links[l] with primed := false, starved := false } with hs3
    have left : KeepsPort s { s3 with channel := discardRead s3.channel l } := by
      have only : s1 = { s with so := { s.so with send := s1.so.send } } := by rw [hs1, setPart_spec]
      have links : s1.so.links = s.so.links := by rw [only]
      have tx : s1.tx = s.tx := by rw [only]
      refine .of_send ?_ ?_ (fun law i starved => ?_) fun law => ?_
      · rw [hs3, only]; rfl
      · show s1.so.send = none → _
        rw [hs1, setPart_spec]; simp
      · have ne : i ≠ l := fun e => by
          subst e
          rw [show ({ s3 with channel := discardRead s3.channel i } : State).so.links = put s1.so.links i _ from rfl, put_same] at starved
          exact absurd starved (by simp)
        rw [show ({ s3 with channel := discardRead s3.channel l } : State).so.links = put s1.so.links l _ from rfl] at starved ⊢
        rw [put_ne _ _ _ _ ne, links] at starved ⊢
        obtain ⟨part, primed, empty⟩ := law i starved
        refine ⟨?_, primed, ?_⟩
        · show (partOf s1 i).isSome = true
          rw [hs1, partOf_setPart, if_neg ne]; exact part
        · show ((put s1.tx l _)[i]).stage = none
          rw [put_ne _ _ _ _ ne, tx]; exact empty
      · have same : s3 = { s with so := s3.so, tx := s3.tx } := by rw [hs3, only]; rfl
        have law3 : ArbiterLaw s3 := ArbiterLaw.of_scanOut same (by rw [hs3, only]; exact fun h => h) law
        refine discards_arbiterLaw (s := s3) rfl ?_ law3
        dsimp only
        unfold discardRead
        split
        · exact .inr ⟨by simp, by simp⟩
        · exact .inl rfl
    split
    · exact left
    · exact left.trans (soWithdraw_keeps _)

/-- A send is abandoned with no bank being sent (R117). -/
theorem abandonSend_keeps {r s : State} (pre : KeepsPort r s) (unsent : ∀ k : Fin 4, (s.banks[k]).state.sends = false) :
    KeepsPort r (abandonSend s) := by
  unfold abandonSend
  dsimp only
  have withdrawn := soWithdraw_keeps s
  have banks : (soWithdraw s).banks = s.banks := by rw [soWithdraw_spec]
  generalize soWithdraw s = s1 at withdrawn banks ⊢
  refine (pre.trans withdrawn).then_send rfl (fun _ _ _ => by rw [banks]; exact unsent)
    (fun _ => starveLaw_of_clear fun l => ?_) fun law => ?_
  · show ((clearScanFlags s1.so.links)[l]).starved = false
    rw [clearScanFlags, getElem_tabulate_fin]
  · have quiet : ArbiterLaw { s1 with
        so := { s1.so with send := none, links := clearScanFlags s1.so.links, resend := false }
        tx := tabulate fun l => { s1.tx[l] with stage := none } } := ArbiterLaw.of_scanOut (s := s1) rfl (fun h => h) law
    refine discards_arbiterLaw rfl ?_ quiet
    dsimp only
    unfold discardSegmentRead
    split
    · exact .inr ⟨by simp, by simp⟩
    · exact .inl rfl

theorem freeAllBanks_free (s : State) (k : Fin 4) : ((freeAllBanks s).banks[k]).state = .free := by
  show ((tabulate fun k => (s.banks[k]).freed)[k]).state = .free
  rw [getElem_tabulate_fin]
  rfl

theorem freeAllBanks_keeps (s : State) : KeepsPort s (freeAllBanks s) := by
  have free := freeAllBanks_free s
  have only : ∀ p : BankState → Bool, p .free = false → AtMostOne (freeAllBanks s) p := fun p h i _ hi => by
    rw [free i, h] at hi; exact absurd hi (by decide)
  refine .of_banks rfl (fun _ => ?_) (fun _ _ => ?_) fun law => ?_
  · exact ⟨only _ rfl, only _ rfl, only _ rfl, only _ rfl, fun k h => absurd ((free k).symm.trans h) (by decide),
      fun _ k => by rw [free k]; rfl⟩
  · refine ⟨fun k => ?_, fun k h => absurd h.1 (by simp [freeAllBanks, copyAbandon, copyIdle, WrittenMap.release]), fun k h => ?_⟩
    · rw [free k]
      simp [lentTo, freeAllBanks, copyAbandon, copyIdle, WrittenMap.release, BankState.fills]
    · rw [free k] at h; exact absurd h (by decide)
  · refine discards_arbiterLaw (s := { freeAllBanks s with channel := s.channel }) rfl ?_ (copyIdle_arbiterLaw s law)
    show discardCopyRead s.channel = s.channel ∨ _
    show _ ∨ ((∀ data, discardCopyRead s.channel ≠ .spRead data) ∧ ∀ data, discardCopyRead s.channel ≠ .preRead data)
    unfold discardCopyRead
    split
    · exact .inr ⟨by simp, by simp⟩
    · exact .inl rfl

theorem resetWall_keeps (s : State) : KeepsPort s (resetWall s) :=
  abandonSend_keeps (freeAllBanks_keeps s) fun k => by rw [freeAllBanks_free]; rfl

end Sys2Proof.Machine
end

section
/-! The Link Supervisor and the starts and ends of sends keep the laws. -/

namespace Sys2Proof.Machine

/-! ### Link records (R120 to R126) -/

/-- What the law of link supervision asks of a link record, by the link's enable. -/
def RecordLaw (enable : Bool) (r : LinkRecord) : Prop :=
  (r.state = .off ↔ enable = false) ∧ (r.state = .off ∨ r.inhibit = true → r.buffer = none) ∧ r.miss ≤ 15
    ∧ (r.state = .active → r.miss < 15)

/-- A link that is not OFF changes to another state that is not OFF. -/
theorem RecordLaw.change {enable : Bool} {r r' : LinkRecord} (h : RecordLaw enable r) (live : r.state ≠ .off) (live' : r'.state ≠ .off)
    (empty : r'.buffer = none) (miss : r'.miss ≤ 15) (active : r'.state = .active → r'.miss < 15) : RecordLaw enable r' :=
  ⟨⟨fun e => absurd e live', fun e => absurd (h.1.mpr e) live⟩, fun _ => empty, miss, active⟩

/-- What it asks of a link's receiver (R93, R200). -/
def RateLaw (s : State) (l : Fin 24) : Prop := ∀ t, s.now ≤ t → rateAt s l t = field (s.cc.tiles[l])[0] 1 2

/-- What it asks of a noted join (log entry 29). -/
def JoinLaw (s : State) (l : Fin 24) : Prop := ∀ n, s.lsv.joined[l] = some n → ∃ f ∈ s.lsv.frames, f.count = n

theorem supervisionLaw_iff (s : State) :
    SupervisionLaw s ↔ s.cc.missLimit ≤ 15 ∧ ∀ l : Fin 24, RecordLaw (s.cc.linkEnable l) s.lsv.links[l] ∧ RateLaw s l ∧ JoinLaw s l := by
  unfold SupervisionLaw RecordLaw RateLaw JoinLaw
  simp only [and_assoc]

/-- An operation on the Link Supervisor's links, receivers, joins and notices. -/
theorem KeepsPort.of_lsv {s t : State} (h : t = { s with lsv := t.lsv })
    (supervision : SupervisionLaw s → SupervisionLaw t) : KeepsPort s t := by
  obtain ⟨v, rfl⟩ : ∃ v, t = { s with lsv := v } := ⟨_, h⟩
  exact { supervision }

/-- Link records replaced by ones as good. -/
theorem KeepsPort.of_records {s : State} (v : Vector LinkRecord 24)
    (good : s.cc.missLimit ≤ 15 → ∀ l : Fin 24, RecordLaw (s.cc.linkEnable l) s.lsv.links[l] → RecordLaw (s.cc.linkEnable l) v[l]) :
    KeepsPort s { s with lsv := { s.lsv with links := v } } :=
  .of_lsv rfl fun law => by
    rw [supervisionLaw_iff] at law ⊢
    exact ⟨law.1, fun l => ⟨good law.1 l (law.2 l).1, (law.2 l).2⟩⟩

/-- Joins and waiting notices replaced, each noted join still waiting for a notice. -/
theorem KeepsPort.of_joins {s : State} (v : Vector (Option Word) 24) (frames : List FrameNotice)
    (waits : (∀ l : Fin 24, JoinLaw s l) → ∀ (l : Fin 24) n, v[l] = some n → ∃ f ∈ frames, f.count = n) :
    KeepsPort s { s with lsv := { s.lsv with joined := v, frames := frames } } :=
  .of_lsv rfl fun law => by
    rw [supervisionLaw_iff] at law ⊢
    exact ⟨law.1, fun l => ⟨(law.2 l).1, (law.2 l).2.1, waits (fun l => (law.2 l).2.2) l⟩⟩

/-- A link record replaced by one as good. -/
theorem setLink_keeps (s : State) (l : Fin 24) (r : LinkRecord)
    (good : s.cc.missLimit ≤ 15 → RecordLaw (s.cc.linkEnable l) s.lsv.links[l] → RecordLaw (s.cc.linkEnable l) r) : KeepsPort s (setLink s l r) := by
  refine .of_records _ fun limit i law => ?_
  by_cases e : i = l
  · subst e; rw [put_same]; exact good limit law
  · rw [put_ne _ _ _ _ e]; exact law

theorem changeLink_keeps (s : State) (l : Fin 24) (r : LinkRecord) (cause : LinkCause)
    (good : s.cc.missLimit ≤ 15 → RecordLaw (s.cc.linkEnable l) s.lsv.links[l] → RecordLaw (s.cc.linkEnable l) r) :
    KeepsPort s (changeLink s l r cause) := by
  refine (setLink_keeps s l r good).trans (.of_quietly ?_)
  unfold changeLink
  dsimp only
  split <;> split <;> rfl

theorem takePacket_keeps (s : State) (l : Fin 24) (bytes : List RxByte) : KeepsPort s (takePacket s l bytes) := by
  unfold takePacket
  dsimp only
  split
  · exact .refl s
  · next receives =>
    push Not at receives
    split
    · next cause _ =>
      unfold returnError
      dsimp only
      split
      · next live =>
        exact changeLink_keeps s l _ _ fun _ h => h.change receives.1 (by simp) rfl h.2.2.1 (by simp)
      · next resting => exact setLink_keeps s l _ fun _ ⟨off, _, miss, active⟩ => ⟨off, fun _ => rfl, miss, active⟩
    · refine setLink_keeps s l _ fun _ ⟨off, _, miss, active⟩ => ⟨off, fun h => ?_, miss, active⟩
      exact absurd h (by simpa using receives)

theorem checkLink_keeps (count : Word) (expected : Option Tag) (limit : Nat) (s : State) (l : Fin 24)
    (small : s.cc.missLimit ≤ 15 → limit ≤ 15) : KeepsPort s (checkLink count expected limit s l) := by
  have emptied : KeepsPort s (setLink s l { s.lsv.links[l] with buffer := none }) :=
    setLink_keeps s l _ fun _ ⟨off, _, miss, active⟩ => ⟨off, fun _ => rfl, miss, active⟩
  unfold checkLink
  dsimp only
  split
  · exact .refl s
  · next isActive =>
    split
    · exact emptied
    · split
      · exact emptied
      · split
        · exact setLink_keeps s l _ fun _ ⟨off, _⟩ => ⟨off, fun _ => rfl, by simp, by simp⟩
        · split
          · exact changeLink_keeps s l _ _ fun _ h => h.change (by rw [isActive]; decide) (by simp) rfl (h.2.2.2 isActive) (by simp)
          · next below =>
            refine setLink_keeps s l _ fun bound ⟨off, _, _, active⟩ => ⟨off, fun _ => rfl, active isActive, fun _ => ?_⟩
            have := small bound
            dsimp only
            omega
  · next isFault =>
    split
    · exact changeLink_keeps s l _ _ fun _ h => h.change (by rw [isFault]; decide) (by simp) rfl (by simp) (by simp)
    · exact .refl s
  · exact emptied

theorem changeLink_lsv (s : State) (l : Fin 24) (r : LinkRecord) (cause : LinkCause) :
    (changeLink s l r cause).lsv = { s.lsv with links := put s.lsv.links l r } := by rw [changeLink_spec]

theorem changeLink_cc (s : State) (l : Fin 24) (r : LinkRecord) (cause : LinkCause) : (changeLink s l r cause).cc = s.cc := by
  rw [changeLink_spec]

/-- A check changes the link's record alone among the Link Supervisor's state, and no shadow. -/
theorem checkLink_rest (count : Word) (expected : Option Tag) (limit : Nat) (s : State) (l : Fin 24) :
    (checkLink count expected limit s l).cc = s.cc
      ∧ (checkLink count expected limit s l).lsv = { s.lsv with links := (checkLink count expected limit s l).lsv.links } := by
  unfold checkLink
  dsimp only
  repeat' split
  all_goals simp [changeLink_lsv, changeLink_cc]

/-- A fold of checks. -/
theorem foldl_checkLink (count : Word) (expected : Option Tag) (limit : Nat) (ls : List (Fin 24)) (s : State)
    (small : s.cc.missLimit ≤ 15 → limit ≤ 15) :
    KeepsPort s (ls.foldl (checkLink count expected limit) s)
      ∧ (ls.foldl (checkLink count expected limit) s).cc = s.cc
      ∧ (ls.foldl (checkLink count expected limit) s).lsv
          = { s.lsv with links := (ls.foldl (checkLink count expected limit) s).lsv.links } := by
  induction ls generalizing s with
  | nil => exact ⟨.refl s, rfl, rfl⟩
  | cons l ls ih =>
    obtain ⟨cc, lsv⟩ := checkLink_rest count expected limit s l
    obtain ⟨keeps, cc', lsv'⟩ := ih (checkLink count expected limit s l) (by rw [cc]; exact small)
    refine ⟨(checkLink_keeps count expected limit s l small).trans keeps, cc'.trans cc, ?_⟩
    rw [List.foldl_cons, lsv', lsv]

theorem checkLinks_keeps (s : State) (count : Word) :
    KeepsPort s (checkLinks s count) ∧ (checkLinks s count).lsv = { s.lsv with links := (checkLinks s count).lsv.links } := by
  obtain ⟨keeps, -, lsv⟩ := foldl_checkLink count s.lsv.expected s.cc.missLimit (List.finRange 24) s id
  unfold checkLinks
  exact ⟨keeps, lsv⟩

/-- The checks do not read which notices wait. -/
theorem checkLink_frames (count : Word) (expected : Option Tag) (limit : Nat) (s : State) (l : Fin 24) (rest : List FrameNotice) :
    checkLink count expected limit { s with lsv := { s.lsv with frames := rest } } l
      = { checkLink count expected limit s l with
          lsv := { (checkLink count expected limit s l).lsv with frames := rest } } := by
  unfold checkLink changeLink
  dsimp only
  repeat' split
  all_goals rfl

theorem foldl_checkLink_frames (count : Word) (expected : Option Tag) (limit : Nat) (rest : List FrameNotice) (ls : List (Fin 24)) (s : State) :
    ls.foldl (checkLink count expected limit) { s with lsv := { s.lsv with frames := rest } }
      = { ls.foldl (checkLink count expected limit) s with
          lsv := { (ls.foldl (checkLink count expected limit) s).lsv with frames := rest } } := by
  induction ls generalizing s with
  | nil => rfl
  | cons l ls ih => rw [List.foldl_cons, checkLink_frames, ih, List.foldl_cons]

theorem checkLinks_frames (count : Word) (rest : List FrameNotice) (s : State) :
    checkLinks { s with lsv := { s.lsv with frames := rest } } count
      = { checkLinks s count with lsv := { (checkLinks s count).lsv with frames := rest } } := by
  unfold checkLinks
  exact foldl_checkLink_frames count s.lsv.expected s.cc.missLimit rest _ s

/-- A frame event notice taken, and with it the joins noted at its event. -/
theorem noticeTaken_keeps {s : State} {n : FrameNotice} {rest : List FrameNotice} (h : s.lsv.frames = n :: rest) :
    KeepsPort s (noticeTaken { s with lsv := { s.lsv with frames := rest } } n.count) := by
  unfold noticeTaken
  refine .of_joins _ _ fun waits l m hm => ?_
  rw [getElem_tabulate_fin] at hm
  split at hm
  · exact absurd hm (by simp)
  · next other =>
    obtain ⟨f, hf, count⟩ := waits l m hm
    rw [h] at hf
    rcases List.mem_cons.mp hf with rfl | hf
    · exact absurd (hm.trans (by rw [count])) other
    · exact ⟨f, hf, count⟩

theorem execLinkCheck_keeps {s t : State} (h : execLinkCheck s = .next t) : KeepsPort s t := by
  unfold execLinkCheck at h
  split at h
  · cases h; exact .refl s
  · next n rest frames =>
    cases h
    have applied : KeepsPort s (applyDueMarks s) := .of_quietly rfl
    refine applied.trans ?_
    have frames : (applyDueMarks s).lsv.frames = n :: rest := frames
    generalize applyDueMarks s = s1 at frames ⊢
    unfold supervise
    dsimp only
    split
    · obtain ⟨checked, lsv⟩ := checkLinks_keeps s1 n.count
      rw [checkLinks_frames]
      exact checked.trans (noticeTaken_keeps (s := checkLinks s1 n.count) (by rw [lsv]; exact frames))
    · exact noticeTaken_keeps frames

theorem execMarkNotice_keeps {s t : State} (h : execMarkNotice s = .next t) : KeepsPort s t := by
  unfold execMarkNotice at h
  split at h
  · cases h; exact .refl s
  · split at h <;> cases h
    · exact .refl s
    · exact .of_quietly rfl

theorem clearLinks_keeps (s : State) (mask : Word) : KeepsPort s (clearLinks s mask) := by
  unfold clearLinks
  refine .of_records _ fun _ l ⟨off, empty, miss, active⟩ => ?_
  rw [getElem_tabulate_fin]
  split
  · exact ⟨off, fun _ => rfl, by simp [LinkRecord.cleared], by simp [LinkRecord.cleared]⟩
  · exact ⟨off, empty, miss, active⟩

/-- A join is noted only for a notice that waits. -/
theorem noteJoin_keeps (s : State) (count : Word) (l : Fin 24) : KeepsPort s (noteJoin s count l) := by
  refine .of_joins _ s.lsv.frames fun waits i m hm => ?_
  by_cases e : i = l
  · subst e
    rw [put_same] at hm
    split at hm
    · next any =>
      obtain ⟨f, hf, hc⟩ := List.any_eq_true.mp any
      exact ⟨f, hf, (by simpa using hc : f.count = count).trans (Option.some.inj hm)⟩
    · exact absurd hm (by simp)
  · rw [put_ne _ _ _ _ e] at hm
    exact waits i m hm

theorem joinLink_keeps (count : Word) (s : State) (l : Fin 24) : KeepsPort s (joinLink count s l) := by
  rcases joinLink_cases count s l with h | ⟨recovers, h⟩ <;> rw [h]
  · exact .refl s
  · refine (noteJoin_keeps s count l).trans (changeLink_keeps _ l _ _ fun _ ⟨off, empty, _⟩ => ⟨⟨?_, fun e => ?_⟩, ?_, by simp, by simp⟩)
    · exact fun h => absurd h (by simp)
    · exact absurd (recovers.symm.trans (off.mpr e)) (by decide)
    · rintro (h | h)
      · exact absurd h (by simp)
      · exact empty (.inr h)

/-! ### Sends (R98, R99, R101) -/

/-- The send of a bank begins: the bank leaves READY or SHOWN for being sent, and the send record takes its place (R24, R25, R101). -/
theorem beginSend_keeps (s : State) (k : Fin 4) (st : BankState) (so : ScanOut) (idle : s.so.send = none)
    (rests : (s.banks[k]).state.fills = false) (sends : st.sends = true)
    (change : ∀ p ∈ [BankState.fills, BankState.waits, BankState.displays], p st = true → p (s.banks[k]).state = true)
    (send : so.send ≠ none) (clear : ∀ l : Fin 24, (so.links[l]).starved = false) (claim : so.claim = s.so.claim) :
    KeepsLaws s { setBank s k { s.banks[k] with state := st } with so := so } := by
  have fills : st.fills = false := by
    revert sends; cases st <;> decide
  have moved : st ≠ .retiring := by rintro rfl; exact absurd sends (by decide)
  have law : BankLaw s → BankLaw { setBank s k { s.banks[k] with state := st } with so := so } := by
    rintro ⟨f, w, se, d, r, n⟩
    refine ⟨f.setBank k _ fun h => .inl (change _ (by simp) h), w.setBank k _ fun h => .inl (change _ (by simp) h),
      se.setBank k _ fun _ => .inr fun j _ => n idle j, d.setBank k _ fun h => .inl (change _ (by simp) h), fun i hi => ?_,
      fun none => absurd none send⟩
    change ((setBank s k { s.banks[k] with state := st }).banks[i]).state = .retiring at hi
    have ne : i ≠ k := fun e => by rw [e, setBank_same] at hi; exact moved hi
    rw [setBank_ne s _ ne] at hi
    obtain ⟨j, hj, src⟩ := r i hi
    have ne' : j ≠ k := fun e => by rw [e, rests] at hj; exact absurd hj (by decide)
    refine ⟨j, ?_, ?_⟩
    · show ((setBank s k { s.banks[k] with state := st }).banks[j]).state.fills = true
      rw [setBank_ne s _ ne']; exact hj
    · show ((setBank s k { s.banks[k] with state := st }).banks[j]).src = some i
      rw [setBank_ne s _ ne']; exact src
  have lending : LendingLaw s → LendingLaw (setBank s k { s.banks[k] with state := st }) :=
    .refill k _ (fills.trans rests.symm) rfl
  have arbiter : ArbiterLaw s → ArbiterLaw { setBank s k { s.banks[k] with state := st } with so := so } :=
    fun law => ArbiterLaw.of_scanOut (s := setBank s k { s.banks[k] with state := st }) rfl (fun h => claim.trans h) law
  exact { bank := law, map := fun h => ⟨law h.1, lending h.2⟩, starve := fun _ => starveLaw_of_clear clear, arbiter }

theorem startSend_keeps (s : State) (count : Word) (kind : SendKind) (k : Fin 4) (st : BankState) (idle : s.so.send = none)
    (rests : (s.banks[k]).state.fills = false) (sends : st.sends = true)
    (change : ∀ p ∈ [BankState.fills, BankState.waits, BankState.displays], p st = true → p (s.banks[k]).state = true) :
    KeepsLaws s (startSend (setBank s k { s.banks[k] with state := st }) count kind k) := by
  unfold startSend
  dsimp only
  refine (beginSend_keeps s k st _ idle rests sends change ?_ (fun l => ?_) ?_).trans
    ((KeepsPort.foldl (joinLink_keeps count) (List.finRange 24) _).trans (soRaise_keeps _)).toKeepsLaws
  · simp
  · show ((clearScanFlags s.so.links)[l]).starved = false
    rw [clearScanFlags, getElem_tabulate_fin]
  · rfl

theorem attemptSend_keeps (s : State) (count : Word) (idle : s.so.send = none) : KeepsLaws s (attemptSend s count) := by
  unfold attemptSend
  cases ready : bankIn s .ready with
  | some k =>
    simp only [sendReady, ready]
    have state := bankIn_some ready
    exact startSend_keeps s count .first k .sending idle (by rw [state]; rfl) rfl (by rw [state]; simp [BankState.fills, BankState.waits, BankState.displays])
  | none =>
    simp only [sendReady, ready]
    split
    · cases shown : bankIn s .shown with
      | some k =>
        simp only [resendShown, shown]
        have state := bankIn_some shown
        exact startSend_keeps s count .again k .resending idle (by rw [state]; rfl) rfl (by rw [state]; simp [BankState.fills, BankState.waits, BankState.displays])
      | none =>
        simp only [resendShown, shown]
        exact (KeepsPort.refl s).toKeepsLaws
    · exact (KeepsPort.refl s).toKeepsLaws

/-- A bank that was being sent becomes SHOWN, with no other on the wall (R26). -/
theorem setShown_keeps {r s : State} (pre : KeepsPort r s) (k : Fin 4) (sends : (s.banks[k]).state.sends = true)
    (others : BankLaw r → BankLaw s → ∀ j : Fin 4, j ≠ k → (s.banks[j]).state.displays = false) : KeepsPort r (setShown s k) := by
  have fills : (s.banks[k]).state.fills = false := by
    revert sends; cases (s.banks[k]).state <;> decide
  unfold setShown
  refine pre.then_banks rfl (fun hr law => ?_) (fun _ _ => .refill k _ fills.symm rfl) fun h => h
  have away := others hr law
  obtain ⟨f, w, se, d, ret, n⟩ := law
  refine ⟨f.setBank k _ fun h => absurd (show BankState.shown.fills = true from h) (by decide),
    w.setBank k _ fun h => absurd (show BankState.shown.waits = true from h) (by decide),
    se.setBank k _ fun h => absurd (show BankState.shown.sends = true from h) (by decide), d.setBank k _ fun _ => .inr away, fun i hi => ?_, fun hs i => ?_⟩
  · have ne : i ≠ k := fun e => by rw [e, setBank_same] at hi; exact absurd hi (by simp)
    rw [setBank_ne s _ ne] at hi
    obtain ⟨j, hj, src⟩ := ret i hi
    have ne' : j ≠ k := fun e => by rw [e, fills] at hj; exact absurd hj (by decide)
    exact ⟨j, by rw [setBank_ne s _ ne']; exact hj, by rw [setBank_ne s _ ne']; exact src⟩
  · by_cases e : i = k
    · rw [e, setBank_same]; rfl
    · rw [setBank_ne s _ e]; exact n hs i

theorem leaveScreen_keeps (s : State) : KeepsPort s (leaveScreen s) := by
  unfold leaveScreen
  split
  · exact .refl s
  · next j h => exact releaseBank_keeps s j (by rw [bankIn_some h]; rfl)

/-- The bank that leaves the screen was SHOWN. -/
theorem leaveScreen_ne (s : State) (j : Fin 4) (h : (s.banks[j]).state ≠ .shown) : (leaveScreen s).banks[j] = s.banks[j] := by
  unfold leaveScreen
  split
  · rfl
  · next i hi => exact releaseBank_ne s fun e => h (by rw [e]; exact bankIn_some hi)

theorem leaveScreen_state (s : State) (j : Fin 4) :
    (leaveScreen s).banks[j] = s.banks[j] ∨ ((leaveScreen s).banks[j]).state = .retiring ∨ ((leaveScreen s).banks[j]).state = .free := by
  unfold leaveScreen
  split
  · exact .inl rfl
  · next i _ =>
    by_cases e : j = i
    · subst e; exact .inr (releaseBank_state s j)
    · exact .inl (releaseBank_ne s e)

/-- While a bank is SENDING, no bank is on the wall once the one SHOWN has left it. -/
theorem leaveScreen_dark (s : State) (law : BankLaw s) (k : Fin 4) (sending : (s.banks[k]).state = .sending) (j : Fin 4) :
    ((leaveScreen s).banks[j]).state.displays = false := by
  obtain ⟨-, -, sends, displays, -⟩ := law
  by_contra h
  have still : (leaveScreen s).banks[j] = s.banks[j] := by
    rcases leaveScreen_state s j with e | e | e
    · exact e
    · rw [e] at h; exact absurd rfl h
    · rw [e] at h; exact absurd rfl h
  rw [still] at h
  have shows : ∀ st : BankState, ¬ st.displays = false → st = .shown ∨ st = .resending := by
    intro st; cases st <;> simp [BankState.displays]
  rcases shows _ h with e | e
  · cases hs : bankIn s .shown with
    | none => exact bankIn_none hs j e
    | some i =>
      have same : j = i := displays j i (by rw [e]; rfl) (by rw [bankIn_some hs]; rfl)
      have left : ((leaveScreen s).banks[i]).state ≠ .shown := by
        unfold leaveScreen
        rw [hs]
        dsimp only
        rcases releaseBank_state s i with e | e <;> rw [e] <;> decide
      obtain rfl := same
      rw [still] at left
      exact left e
  · have same : j = k := sends j k (by rw [e]; rfl) (by rw [sending]; rfl)
    rw [same, sending] at e
    exact absurd e (by decide)

/-- The bank on the wall changes with the send (R26). -/
theorem showSent_keeps (s : State) : KeepsPort s (showSent s).1 := by
  unfold showSent
  split
  · next k h =>
    have sending := bankIn_some h
    have kept : (leaveScreen s).banks[k] = s.banks[k] := leaveScreen_ne s k (by rw [sending]; decide)
    exact setShown_keeps (leaveScreen_keeps s) k (by rw [kept, sending]; rfl) fun law _ j _ => leaveScreen_dark s law k sending j
  · split
    · next k h =>
      have resending := bankIn_some h
      exact setShown_keeps (.refl s) k (by rw [resending]; rfl) fun law _ => law.2.2.2.1.others (by rw [resending]; rfl)
    · exact .refl s

/-- After the show no bank is being sent. -/
theorem showSent_unsent (s : State) (law : BankLaw s) (j : Fin 4) : ((showSent s).1.banks[j]).state.sends = false := by
  obtain ⟨-, -, sends, -⟩ := law
  have sends_iff : ∀ st : BankState, ¬ st.sends = false → st = .sending ∨ st = .resending := by
    intro st; cases st <;> simp [BankState.sends]
  unfold showSent
  split
  · next k h =>
    by_cases e : j = k
    · subst e; exact congrArg (BankState.sends ∘ Bank.state) (setBank_same ..)
    · have away : ((setShown (leaveScreen s) k).banks[j]) = (leaveScreen s).banks[j] := setBank_ne _ _ e
      dsimp only
      rw [away]
      rcases leaveScreen_state s j with h' | h' | h' <;> rw [h']
      · exact sends.others (by rw [bankIn_some h]; rfl) j e
      · rfl
      · rfl
  · next noSending =>
    split
    · next k h =>
      by_cases e : j = k
      · subst e; exact congrArg (BankState.sends ∘ Bank.state) (setBank_same ..)
      · have away : ((setShown s k).banks[j]) = s.banks[j] := setBank_ne _ _ e
        dsimp only
        rw [away]
        exact sends.others (by rw [bankIn_some h]; rfl) j e
    · next noResending =>
      by_contra h
      exact (sends_iff _ h).elim (bankIn_none noSending j) (bankIn_none noResending j)

theorem endSend_keeps (s : State) (d : Send) : KeepsPort s (endSend s d) := by
  unfold endSend
  dsimp only
  have shown := showSent_keeps s
  have unsent := showSent_unsent s
  generalize (showSent s).1 = s1 at shown unsent ⊢
  have ended : KeepsPort s { s1 with so := { s1.so with send := none, lastShown := d.tag, links := clearStarved s1.so.links } } := by
    refine shown.then_send rfl (fun law _ _ => unsent law) (fun _ => starveLaw_of_clear fun l => ?_)
      (ArbiterLaw.of_scanOut rfl fun h => h)
    show ((clearStarved s1.so.links)[l]).starved = false
    rw [clearStarved, getElem_tabulate_fin]
  exact ended.trans (.of_quietly rfl)

/-- Flags and counts replaced, the flags as they were. -/
theorem KeepsPort.of_scanLinks {s : State} (v : Vector ScanLink 24)
    (same : ∀ l : Fin 24, (v[l]).starved = (s.so.links[l]).starved ∧ (v[l]).primed = (s.so.links[l]).primed) :
    KeepsPort s { s with so := { s.so with links := v } } :=
  .of_send rfl (fun h => h) (fun law l starved => by
    obtain ⟨part, primed, empty⟩ := law l ((same l).1.symm.trans starved)
    exact ⟨part, (same l).2.trans primed, empty⟩) (ArbiterLaw.of_scanOut rfl fun h => h)

theorem showGate_keeps (s : State) (d : Send) : KeepsPort s (showGate s d).1 := by
  unfold showGate
  split
  · exact endSend_keeps s d
  · refine .of_scanLinks _ fun l => ?_
    rw [raiseLate, getElem_tabulate_fin]
    split
    · exact ⟨rfl, rfl⟩
    · split <;> exact ⟨rfl, rfl⟩

theorem giveMarks_so (s : State) (n : FrameNotice) (m : Mark) : (giveMarks s n m).so = s.so := by
  have fold : ∀ (ls : List (Fin 24)) (s : State), (ls.foldl (giveMark m) s).so = s.so := by
    intro ls
    induction ls with
    | nil => exact fun _ => rfl
    | cons l ls ih => intro s; rw [List.foldl_cons, ih, giveMark_only]
  exact fold (List.finRange 24) s

theorem scanOutFrame_keeps (s : State) (n : FrameNotice) : KeepsLaws s (scanOutFrame s n) := by
  unfold scanOutFrame
  split
  · exact (KeepsPort.refl s).toKeepsLaws
  · split
    · exact (giveMarks_keeps ..).toKeepsLaws
    · split
      · next idle => exact (giveMarks_keeps ..).toKeepsLaws.trans (attemptSend_keeps _ _ (by rw [giveMarks_so]; exact idle))
      · next d _ =>
        have marked := (showGate_keeps s d).trans (giveMarks_keeps (showGate s d).1 n (showGate s d).2)
        dsimp only
        split
        · next idle => exact marked.toKeepsLaws.trans (attemptSend_keeps _ _ (Option.isNone_iff_eq_none.mp idle))
        · exact marked.toKeepsLaws

end Sys2Proof.Machine
end

section
/-! Bit fields of words: reading a field after a field is replaced. -/

namespace Sys2Proof.Machine

theorem testBit_field (w : Word) (lo len i : Nat) : (field w lo len).testBit i = (decide (i < len) && w.getLsbD (lo + i)) := by
  rw [field, BitVec.testBit_toNat, BitVec.getLsbD_extractLsb']

/-- A bit of a word after a field is replaced: the new value's inside the field, the word's own outside. -/
theorem getLsbD_setField (w : Word) (lo len v j : Nat) (fits : lo + len ≤ 32) :
    (setField w lo len v).getLsbD j = if lo ≤ j ∧ j < lo + len then v.testBit (j - lo) else w.getLsbD j := by
  unfold setField
  simp only [BitVec.getLsbD_or, BitVec.getLsbD_and, BitVec.getLsbD_not, BitVec.getLsbD_shiftLeft, BitVec.getLsbD_setWidth,
    BitVec.getLsbD_allOnes, BitVec.getLsbD_ofNat]
  by_cases small : j < 32
  · by_cases inside : lo ≤ j ∧ j < lo + len
    · have h1 : ¬ j < lo := by omega
      have h2 : j - lo < len := by omega
      have h3 : j - lo < 32 := by omega
      simp [inside, small, h1, h2, h3]
    · rw [if_neg inside]
      by_cases below : j < lo
      · simp [small, below]
      · have h2 : ¬ j - lo < len := by omega
        simp [small, below, h2]
  · have h : w.getLsbD j = false := BitVec.getLsbD_of_ge w j (by omega)
    have out : ¬ (lo ≤ j ∧ j < lo + len) := by omega
    simp [small, h, out]

theorem field_setField_same (w : Word) (lo len v : Nat) (fits : lo + len ≤ 32) : field (setField w lo len v) lo len = v % 2 ^ len := by
  refine Nat.eq_of_testBit_eq fun i => ?_
  rw [testBit_field, getLsbD_setField _ _ _ _ _ fits, Nat.testBit_mod_two_pow]
  by_cases h : i < len
  · rw [if_pos (by omega), Nat.add_sub_cancel_left]
  · simp [h]

/-- A field is the value put into it, if that fits. -/
theorem field_setField_of_lt {lo len v : Nat} (w : Word) (fits : lo + len ≤ 32) (small : v < 2 ^ len) :
    field (setField w lo len v) lo len = v := by
  rw [field_setField_same w lo len v fits, Nat.mod_eq_of_lt small]

/-- A field apart from the one replaced stays. -/
theorem field_setField_apart (w : Word) (lo len v lo' len' : Nat) (fits : lo + len ≤ 32) (apart : lo' + len' ≤ lo ∨ lo + len ≤ lo') :
    field (setField w lo len v) lo' len' = field w lo' len' := by
  refine Nat.eq_of_testBit_eq fun i => ?_
  rw [testBit_field, testBit_field, getLsbD_setField _ _ _ _ _ fits]
  by_cases h : i < len'
  · rw [if_neg (by omega)]
  · simp [h]

theorem getLsbD_setField_apart (w : Word) (lo len v j : Nat) (fits : lo + len ≤ 32) (apart : ¬ (lo ≤ j ∧ j < lo + len)) :
    (setField w lo len v).getLsbD j = w.getLsbD j := by
  rw [getLsbD_setField _ _ _ _ _ fits, if_neg apart]

theorem sameOutside_setField (w : Word) (lo len v : Nat) (fits : lo + len ≤ 32) : SameOutside w (setField w lo len v) lo len :=
  fun j out => getLsbD_setField_apart w lo len v j fits out

/-- A word whose field is replaced by what it holds stays. -/
theorem setField_field (w : Word) (lo len : Nat) (fits : lo + len ≤ 32) : setField w lo len (field w lo len) = w := by
  refine BitVec.eq_of_getLsbD_eq fun j _ => ?_
  rw [getLsbD_setField _ _ _ _ _ fits]
  split
  · next inside => rw [testBit_field, Nat.add_sub_cancel' inside.1, decide_eq_true (by omega), Bool.true_and]
  · rfl

theorem clampNat_eq (v lo hi : Nat) (h : lo ≤ hi) : clampNat v lo hi = max lo (min v hi) := by
  unfold clampNat
  split
  · omega
  · split <;> omega

theorem clampNat_bounds (v lo hi : Nat) (h : lo ≤ hi) : lo ≤ clampNat v lo hi ∧ clampNat v lo hi ≤ hi := by
  rw [clampNat_eq v lo hi h]
  omega

/-- A clamped field lies between its bounds. -/
theorem field_clampField (w : Word) (lo len least most : Nat) (fits : lo + len ≤ 32) (bounds : least ≤ most) (small : most < 2 ^ len) :
    field (clampField w lo len least most) lo len = max least (min (field w lo len) most) := by
  rw [clampField, field_setField_of_lt w fits, clampNat_eq _ _ _ bounds]
  have := clampNat_bounds (field w lo len) least most bounds
  omega

end Sys2Proof.Machine
end

section
/-! The adjusted value of every control word: the field brought into range, the other bits kept. -/

namespace Sys2Proof.Machine

/-! ### Single fields -/

/-- A word whose field becomes a value that fits. -/
theorem setField_spec {lo len v : Nat} (w : Word) (fits : lo + len ≤ 32) (small : v < 2 ^ len) :
    SameOutside w (setField w lo len v) lo len ∧ field (setField w lo len v) lo len = v :=
  ⟨sameOutside_setField w lo len v fits, field_setField_of_lt w fits small⟩

theorem clampField_spec (w : Word) (lo len least most : Nat) (fits : lo + len ≤ 32) (bounds : least ≤ most) (small : most < 2 ^ len) :
    SameOutside w (clampField w lo len least most) lo len
      ∧ field (clampField w lo len least most) lo len = max least (min (field w lo len) most) :=
  ⟨sameOutside_setField _ _ _ _ fits, field_clampField w lo len least most fits bounds small⟩

theorem adjustWidth_spec (m : Word) :
    SameOutside m (adjustWidth m) 0 13 ∧ field (adjustWidth m) 0 13 = max 16 (min (field m 0 13 / 16 * 16) 7680) := by
  unfold adjustWidth
  rw [clampNat_eq _ 16 7680 (by decide)]
  exact setField_spec m (by decide) (by omega)

theorem adjustBase_spec (m : Word) (n : Nat) (fits : n ≤ 32) :
    SameOutside m (adjustBase m n) 0 n ∧ field (adjustBase m n) 0 n = 0 :=
  setField_spec m (by omega) (Nat.two_pow_pos n)

theorem adjustOrder_spec (m : Word) :
    SameOutside m (adjustOrder m) 0 3 ∧ field (adjustOrder m) 0 3 = if 5 < field m 0 3 then 0 else field m 0 3 := by
  unfold adjustOrder
  split
  · exact setField_spec m (by decide) (by decide)
  · exact ⟨fun _ _ => rfl, rfl⟩

theorem adjustFixture_spec (m : Word) :
    SameOutside m (adjustFixture 0 m) 0 2 ∧ field (adjustFixture 0 m) 0 2 = if field m 0 2 = 3 then 0 else field m 0 2 := by
  unfold adjustFixture
  by_cases h : field m 0 2 = 3
  · rw [if_pos ⟨rfl, h⟩, if_pos h]
    exact setField_spec m (by decide) (by decide)
  · rw [if_neg fun c => h c.2, if_neg h]
    exact ⟨fun _ _ => rfl, rfl⟩

theorem adjustFixture_other (i : Fin 4) (m : Word) (h : i.val ≠ 0) : adjustFixture i m = m := by
  unfold adjustFixture
  rw [if_neg fun c => h (congrArg Fin.val c.1)]

theorem adjustClip_spec (c : Shadow) (m : Word) :
    SameOutside m (adjustZone c 0 m) 8 5 ∧ field (adjustZone c 0 m) 8 5 = min (field m 8 5) 16 := by
  unfold adjustZone
  dsimp only
  split
  · next h =>
    have := setField_spec (lo := 8) (len := 5) (v := 16) m (by decide) (by decide)
    rwa [show min (field m 8 5) 16 = 16 by omega]
  · next h => exact ⟨fun _ _ => rfl, by omega⟩

/-! ### Pairs and records -/

/-- Two coordinates, each clamped and then put in order. -/
theorem adjustPair_spec (m : Word) (len most : Nat) (fits : len ≤ 16) :
    let a := min (field m 0 len) most
    let b := min (field m 16 len) most
    field (adjustPair m len most) 0 len = min a b ∧ field (adjustPair m len most) 16 len = max a b
      ∧ ∀ j, (len ≤ j ∧ j < 16) ∨ 16 + len ≤ j → (adjustPair m len most).getLsbD j = m.getLsbD j := by
  have ha := field_lt m 0 len
  have hb := field_lt m 16 len
  unfold adjustPair
  refine ⟨?_, ?_, fun j hj => ?_⟩
  · rw [field_setField_apart _ 16 len _ 0 len (by omega) (by omega), field_setField_of_lt _ (by omega) (by omega)]
  · rw [field_setField_of_lt _ (by omega) (by omega)]
  · rw [getLsbD_setField_apart _ _ _ _ _ (by omega) (by omega), getLsbD_setField_apart _ _ _ _ _ (by omega) (by omega)]

theorem adjustHeader_adjusted (m : Word) : HeaderAdjusted m (adjustHeader m) := by
  unfold HeaderAdjusted adjustHeader clampField
  rw [clampNat_eq _ 1 16 (by decide), clampNat_eq _ 16 512 (by decide), clampNat_eq _ 1 512 (by decide)]
  refine ⟨fun j hj => ?_, ?_, ?_, ?_⟩
  · simp (disch := omega) only [getLsbD_setField_apart]
  all_goals simp (disch := omega) only [field_setField_apart, field_setField_of_lt]

/-- The rate code and the enable of a header are no part of what is adjusted. -/
theorem adjustHeader_low (m : Word) :
    (adjustHeader m).getLsbD 0 = m.getLsbD 0 ∧ field (adjustHeader m) 1 2 = field m 1 2 := by
  unfold adjustHeader clampField
  exact ⟨by simp (disch := omega) only [getLsbD_setField_apart], by simp (disch := omega) only [field_setField_apart]⟩

theorem adjustOrigin_spec (m : Word) :
    field (adjustOrigin m) 0 13 = min (field m 0 13 / 16 * 16) 7664 ∧ field (adjustOrigin m) 16 12 = min (field m 16 12) 2159
      ∧ ∀ j, (13 ≤ j ∧ j < 16) ∨ 28 ≤ j → (adjustOrigin m).getLsbD j = m.getLsbD j := by
  unfold adjustOrigin
  refine ⟨?_, ?_, fun j hj => ?_⟩
  · simp (disch := omega) only [field_setField_apart, field_setField_of_lt]
  · simp (disch := omega) only [field_setField_of_lt]
  · simp (disch := omega) only [getLsbD_setField_apart]

theorem adjustRecord_adjusted (c : Shadow) (l : Fin 24) (m : Word) : RecordAdjusted c l m (adjustRecord c l m) := by
  obtain ⟨x0, y0, rest⟩ := adjustOrigin_spec m
  unfold RecordAdjusted adjustRecord
  dsimp only
  generalize adjustOrigin m = v at x0 y0 rest ⊢
  split
  · next leaves =>
    have cleared : (setField v 31 1 0).getLsbD 31 = false := by rw [getLsbD_setField _ _ _ _ _ (by decide)]; simp
    simp (disch := omega) only [field_setField_apart]
    refine ⟨x0, y0, ?_, fun j hj => ?_⟩
    · rw [cleared]
      exact ⟨fun h => absurd h (by decide), fun h => absurd leaves.2 (by omega)⟩
    · rw [getLsbD_setField_apart _ _ _ _ _ (by decide) (by omega)]
      exact rest j (by omega)
  · next stays =>
    refine ⟨x0, y0, ?_, fun j hj => rest j (by omega)⟩
    rw [rest 31 (by omega)] at stays ⊢
    constructor
    · intro h
      exact ⟨h, Nat.le_of_not_lt fun lt => stays ⟨h, .inl lt⟩, Nat.le_of_not_lt fun lt => stays ⟨h, .inr lt⟩⟩
    · exact And.left

/-! ### The tally rank (R140) -/

/-- The kept inputs are each value at its first appearance. -/
theorem foldl_keepFirst (l acc : List Nat) :
    l.foldl (fun kept x => if kept.contains x then kept else kept ++ [x]) acc
      = acc ++ (l.filter fun x => !acc.contains x).eraseDups := by
  induction l generalizing acc with
  | nil => simp
  | cons x xs ih =>
    rw [List.foldl_cons]
    by_cases h : acc.contains x = true
    · rw [if_pos h, ih, List.filter_cons_of_neg (by rw [h]; decide)]
    · rw [if_neg h, ih, List.filter_cons_of_pos (by simpa using h), List.eraseDups_cons, List.filter_filter, List.append_assoc,
        List.singleton_append]
      congr 4
      funext y
      simp [Bool.and_comm, Bool.beq_eq_decide_eq]

theorem keepFirst_eq (l : List Nat) : keepFirst l = l.eraseDups := by
  rw [keepFirst, foldl_keepFirst]
  simp

theorem repairRank_eq (l : List Nat) : repairRank l = l.eraseDups ++ (List.range 8).filter fun x => x ∉ l := by
  rw [repairRank, keepFirst_eq]
  congr 2
  funext x
  simp [List.contains_eq_mem]

/-- A list without its repetitions has the same members, each once. -/
theorem nodup_eraseDups (l : List Nat) : l.eraseDups.Nodup ∧ ∀ x, x ∈ l.eraseDups ↔ x ∈ l := by
  induction hn : l.length using Nat.strongRecOn generalizing l with
  | _ n ih =>
    cases l with
    | nil => simp
    | cons a as =>
      have shorter : (as.filter fun b => !b == a).length < n := by
        have := List.length_filter_le (fun b => !b == a) as
        rw [List.length_cons] at hn
        omega
      obtain ⟨nodup, mem⟩ := ih _ shorter _ rfl
      rw [List.eraseDups_cons]
      refine ⟨List.nodup_cons.mpr ⟨fun h => ?_, nodup⟩, fun x => ?_⟩
      · rw [mem] at h
        simp at h
      · rw [List.mem_cons, List.mem_cons, mem, List.mem_filter]
        by_cases e : x = a <;> simp [e]

/-- A repaired rank is the eight inputs, each once. -/
theorem repairRank_perm (l : List Nat) (small : ∀ x ∈ l, x < 8) : (repairRank l).Perm (List.range 8) := by
  rw [repairRank_eq]
  have nodup : (l.eraseDups ++ (List.range 8).filter fun x => x ∉ l).Nodup := by
    refine List.nodup_append.mpr ⟨(nodup_eraseDups l).1, List.Nodup.filter _ List.nodup_range, fun x hx y hy e => ?_⟩
    subst e
    simp only [List.mem_filter, (nodup_eraseDups l).2, decide_eq_true_eq] at hx hy
    exact hy.2 hx
  refine (List.perm_ext_iff_of_nodup nodup List.nodup_range).mpr fun x => ?_
  simp only [List.mem_append, (nodup_eraseDups l).2, List.mem_filter, List.mem_range, decide_eq_true_eq]
  by_cases h : x ∈ l
  · simp [h, small x h]
  · simp [h]

/-- The first positions of a rank written one after another. -/
theorem field_foldl_setField (w : Word) (codes : List Nat) (n p : Nat) (hn : n ≤ 8) (hp : p < 8) :
    field ((List.range n).foldl (fun w p => setField w (3 * p) 3 (codes.getD p 0)) w) (3 * p) 3
      = if p < n then codes.getD p 0 % 8 else field w (3 * p) 3 := by
  induction n with
  | zero => simp
  | succ n ih =>
    rw [List.range_succ, List.foldl_append, List.foldl_cons, List.foldl_nil]
    rcases Nat.lt_trichotomy p n with lt | rfl | gt
    · rw [field_setField_apart _ _ _ _ _ _ (by omega) (by omega), ih (by omega), if_pos lt, if_pos (by omega)]
    · rw [field_setField_same _ _ _ _ (by omega), if_pos (by omega)]; rfl
    · rw [field_setField_apart _ _ _ _ _ _ (by omega) (by omega), ih (by omega), if_neg (by omega), if_neg (by omega)]

theorem sameOutside_foldl_setField (w : Word) (codes : List Nat) (n : Nat) (hn : n ≤ 8) :
    SameOutside w ((List.range n).foldl (fun w p => setField w (3 * p) 3 (codes.getD p 0)) w) 0 24 := by
  intro j hj
  induction n with
  | zero => rfl
  | succ n ih =>
    rw [List.range_succ, List.foldl_append, List.foldl_cons, List.foldl_nil, getLsbD_setField_apart _ _ _ _ _ (by omega) (by omega)]
    exact ih (by omega)

theorem rankCodes_lt (w : Word) : ∀ x ∈ rankCodes w, x < 8 := by
  unfold rankCodes
  simp only [List.mem_map]
  rintro x ⟨p, -, rfl⟩
  exact field_lt w _ 3

/-- The rank word repaired holds the repaired rank, its other bits kept. -/
theorem adjustRank_spec (m : Word) :
    SameOutside m (adjustRank m) 0 24 ∧ rankCodes (adjustRank m) = repairRank (rankCodes m) := by
  have perm := repairRank_perm (rankCodes m) (rankCodes_lt m)
  unfold adjustRank setRank
  generalize repairRank (rankCodes m) = codes at perm ⊢
  refine ⟨sameOutside_foldl_setField m codes 8 (by decide), ?_⟩
  have length : codes.length = 8 := perm.length_eq
  refine List.ext_getElem (by simp [rankCodes, length]) fun p hp _ => ?_
  have hp8 : p < 8 := by simpa [rankCodes] using hp
  have small : codes[p] < 8 := List.mem_range.mp (perm.mem_iff.mp (List.getElem_mem ..))
  simp only [rankCodes, List.getElem_map, List.getElem_range]
  rw [field_foldl_setField m codes 8 p (by decide) hp8, if_pos hp8, List.getD_eq_getElem codes 0 (by omega), Nat.mod_eq_of_lt small]

/-! ### The camera-to-look map (R141) -/

/-- The inputs of a look map brought to the default look one after another. -/
theorem field_foldl_look (w : Word) (d n : Nat) (hn : n ≤ 8) (hd : d < 4) (i : Nat) (hi : i ≤ 8) :
    field ((List.range n).foldl (fun v i => if field v (2 * i) 2 = 3 then setField v (2 * i) 2 d else v) w) (2 * i) 2
      = if i < n ∧ field w (2 * i) 2 = 3 then d else field w (2 * i) 2 := by
  induction n with
  | zero => simp
  | succ n ih =>
    rw [List.range_succ, List.foldl_append, List.foldl_cons, List.foldl_nil]
    have ih := ih (by omega)
    generalize (List.range n).foldl (fun v i => if field v (2 * i) 2 = 3 then setField v (2 * i) 2 d else v) w = u at ih ⊢
    by_cases e : i = n
    · subst e
      rw [if_neg (by omega)] at ih
      rw [ih]
      split
      · next h => rw [if_pos ⟨by omega, h⟩, field_setField_of_lt _ (by omega) (by omega)]
      · next h => rw [if_neg fun c => h c.2, ih]
    · have same : (i < n + 1 ∧ field w (2 * i) 2 = 3) ↔ (i < n ∧ field w (2 * i) 2 = 3) := by omega
      rw [if_congr same rfl rfl, ← ih]
      split
      · exact field_setField_apart _ _ _ _ _ _ (by omega) (by omega)
      · rfl

theorem sameOutside_foldl_look (w : Word) (d n : Nat) (hn : n ≤ 8) :
    SameOutside w ((List.range n).foldl (fun v i => if field v (2 * i) 2 = 3 then setField v (2 * i) 2 d else v) w) 0 18 := by
  intro j hj
  induction n with
  | zero => rfl
  | succ n ih =>
    rw [List.range_succ, List.foldl_append, List.foldl_cons, List.foldl_nil]
    split
    · rw [getLsbD_setField_apart _ _ _ _ _ (by omega) (by omega)]; exact ih (by omega)
    · exact ih (by omega)

theorem adjustCameraMap_spec (m : Word) :
    SameOutside m (adjustCameraMap m) 0 18
      ∧ field (adjustCameraMap m) 16 2 = (if field m 16 2 = 3 then 0 else field m 16 2)
      ∧ ∀ i : Fin 8, field (adjustCameraMap m) (2 * i.val) 2
          = if field m (2 * i.val) 2 = 3 then field (adjustCameraMap m) 16 2 else field m (2 * i.val) 2 := by
  unfold adjustCameraMap
  dsimp only
  have d16 : field (if field m 16 2 = 3 then setField m 16 2 0 else m) 16 2 = if field m 16 2 = 3 then 0 else field m 16 2 := by
    split
    · exact field_setField_of_lt m (by decide) (by decide)
    · rfl
  have inputs : ∀ i : Fin 8, field (if field m 16 2 = 3 then setField m 16 2 0 else m) (2 * i.val) 2 = field m (2 * i.val) 2 := by
    intro i
    split
    · exact field_setField_apart _ _ _ _ _ _ (by decide) (by omega)
    · rfl
  have rest : SameOutside m (if field m 16 2 = 3 then setField m 16 2 0 else m) 0 18 := by
    intro j hj
    split
    · exact getLsbD_setField_apart _ _ _ _ _ (by decide) (by omega)
    · rfl
  generalize (if field m 16 2 = 3 then setField m 16 2 0 else m) = w1 at d16 inputs rest ⊢
  have small := field_lt w1 16 2
  have default := field_foldl_look w1 (field w1 16 2) 8 (by decide) (by omega) 8 (by decide)
  rw [if_neg (by omega)] at default
  refine ⟨fun j hj => (sameOutside_foldl_look w1 (field w1 16 2) 8 (by decide) j hj).trans (rest j hj), default.trans d16, fun i => ?_⟩
  rw [field_foldl_look w1 (field w1 16 2) 8 (by decide) (by omega) i.val (by omega), inputs i, default]
  exact if_congr (and_iff_right i.isLt) rfl rfl

end Sys2Proof.Machine
end

section
/-! The Reference Unit, the Tally Unit, the Lighting Engine and the lamp links keep the laws. -/

namespace Sys2Proof.Machine

/-! ### The schedule (R79) -/

theorem mem_schedInsert (l : List Sched) (e x : Sched) : x ∈ schedInsert l e ↔ x = e ∨ x ∈ l := by
  induction l with
  | nil => simp [schedInsert]
  | cons y ys ih =>
    unfold schedInsert
    split
    · exact List.mem_cons
    · rw [List.mem_cons, ih, List.mem_cons]
      tauto

theorem pairwise_schedInsert (l : List Sched) (e : Sched) (h : l.Pairwise (fun a b => a.time ≤ b.time)) :
    (schedInsert l e).Pairwise (fun a b => a.time ≤ b.time) := by
  induction l with
  | nil => exact List.pairwise_singleton ..
  | cons y ys ih =>
    obtain ⟨above, rest⟩ := List.pairwise_cons.mp h
    unfold schedInsert
    split
    · next lt =>
      refine List.pairwise_cons.mpr ⟨fun x hx => ?_, h⟩
      rcases List.mem_cons.mp hx with rfl | hx
      · exact Nat.le_of_lt lt
      · exact (Nat.le_of_lt lt).trans (above x hx)
    · next ge =>
      refine List.pairwise_cons.mpr ⟨fun x hx => ?_, ih rest⟩
      rcases (mem_schedInsert ys e x).mp hx with rfl | hx
      · omega
      · exact above x hx

theorem length_freeRuns_schedInsert (l : List Sched) (e : Sched) :
    (freeRuns (schedInsert l e)).length = (freeRuns l).length + bit e.freeRun := by
  unfold freeRuns
  induction l with
  | nil => cases h : e.freeRun <;> simp [schedInsert, h, bit]
  | cons y ys ih =>
    unfold schedInsert
    split
    · cases h : e.freeRun <;> simp [List.filter_cons, h, bit]
    · rw [List.filter_cons, List.filter_cons]
      split
      · rw [List.length_cons, List.length_cons, ih]; omega
      · exact ih

theorem freeRuns_schedInsert_pulse (l : List Sched) (t : Nat) : (freeRuns (schedInsert l ⟨t, false⟩)).length = (freeRuns l).length :=
  length_freeRuns_schedInsert l ⟨t, false⟩

theorem freeRuns_dropFreeRun (l : List Sched) : freeRuns (dropFreeRun l) = [] := by
  simp [freeRuns, dropFreeRun]

theorem hasFreeRun_iff (l : List Sched) : hasFreeRun l = true ↔ 0 < (freeRuns l).length := by
  simp [hasFreeRun, freeRuns, List.length_pos_iff, List.filter_eq_nil_iff]

/-! ### The law of the unit -/

/-- The lock states that run free: one free-running time stands in the schedule (R79, R83, R85). -/
def Lock.runsFree : Lock → Bool
  | .internal | .holdover | .lost => true
  | _ => false

/-- The law of the Reference Unit for one mode in use, with `owed` free-running times taken out of the schedule and to be put
back. -/
def RefLaw (owed : Nat) (mode : Bool) (r : RefUnit) : Prop :=
  r.schedule.Pairwise (fun a b => a.time ≤ b.time)
    ∧ (freeRuns r.schedule).length + owed ≤ 1
    ∧ (r.lock = .locked → (freeRuns r.schedule).length + owed = 0)
    ∧ (r.lock.runsFree = true → (freeRuns r.schedule).length + owed = 1)
    ∧ (r.watch.isSome = true ↔ r.lock = .locked)
    ∧ (r.lock = .internal ↔ mode = true)
    ∧ (r.lock = .internal → r.lastPulse = none)
    ∧ r.good ≤ 15

theorem referenceLaw_iff (s : State) : ReferenceLaw s ↔ RefLaw 0 s.cc.modeInternal s.ru ∧ s.cc.acquireCount ≤ 15 := by
  have free : (s.ru.lock = .internal ∨ s.ru.lock = .holdover ∨ s.ru.lock = .lost) ↔ s.ru.lock.runsFree = true := by
    cases s.ru.lock <;> simp [Lock.runsFree]
  unfold ReferenceLaw RefLaw
  simp only [free, and_assoc, Nat.add_zero, List.length_eq_zero_iff]

/-- After what keeps the laws, an operation of the Reference Unit. -/
theorem KeepsPort.then_ru {r s t : State} (pre : KeepsPort r s) (h : t = { s with ru := t.ru, draws := t.draws })
    (law : ReferenceLaw r → ReferenceLaw t) : KeepsPort r t := by
  obtain ⟨u, d, rfl⟩ : ∃ u d, t = { s with ru := u, draws := d } := ⟨_, _, h⟩
  exact { pre with reference := law }

theorem KeepsPort.of_ru {s t : State} (h : t = { s with ru := t.ru, draws := t.draws })
    (law : s.cc.acquireCount ≤ 15 → RefLaw 0 s.cc.modeInternal s.ru → RefLaw 0 s.cc.modeInternal t.ru) : KeepsPort s t := by
  refine (KeepsPort.refl s).then_ru h fun ref => ?_
  rw [referenceLaw_iff] at ref ⊢
  rw [show t.cc = s.cc by rw [h]]
  exact ⟨law ref.2 ref.1, ref.2⟩

/-- A pulse-scheduled time is no free-running one. -/
theorem RefLaw.addPulse {n : Nat} {mode : Bool} {r : RefUnit} (t : Nat) (h : RefLaw n mode r) : RefLaw n mode (r.addPulse t) := by
  obtain ⟨sorted, rest⟩ := h
  refine ⟨pairwise_schedInsert _ _ sorted, ?_⟩
  rw [RefUnit.addPulse, freeRuns_schedInsert_pulse]
  exact rest

/-- A free-running time that is owed is put into the schedule. -/
theorem RefLaw.addFree {mode : Bool} {r : RefUnit} (t : Nat) (h : RefLaw 1 mode r) : RefLaw 0 mode (r.addFree t) := by
  obtain ⟨sorted, most, locked, free, rest⟩ := h
  have length := length_freeRuns_schedInsert r.schedule ⟨t, true⟩
  simp only [bit, if_true] at length
  refine ⟨pairwise_schedInsert _ _ sorted, ?_, ?_, ?_, rest⟩ <;> rw [RefUnit.addFree, length]
  · exact most
  · exact locked
  · exact free

/-- The earliest scheduled time is taken out. -/
theorem RefLaw.reached {mode : Bool} {r : RefUnit} {e : Sched} {rest : List Sched} (h : RefLaw 0 mode r) (schedule : r.schedule = e :: rest) :
    RefLaw (bit e.freeRun) mode { r with schedule := rest } := by
  obtain ⟨sorted, most, locked, free, others⟩ := h
  have length : (freeRuns r.schedule).length = (freeRuns rest).length + bit e.freeRun := by
    rw [schedule]
    cases he : e.freeRun <;> simp [freeRuns, he, bit]
  rw [length, Nat.add_zero] at most locked free
  rw [schedule] at sorted
  exact ⟨(List.pairwise_cons.mp sorted).2, most, locked, free, others⟩

/-! ### Pulses (R77, R78, R81 to R83) -/

theorem reportRef_keeps (s : State) (prev : Lock) (cause : RefCause) : KeepsPort s (reportRef s prev cause) := report_keeps ..

theorem enterLocked_keeps (s : State) (t d : Nat) (external : s.cc.modeInternal = false) : KeepsPort s (enterLocked s t d) := by
  unfold enterLocked
  dsimp only
  refine KeepsPort.trans (.of_ru rfl fun _ ⟨sorted, _⟩ => RefLaw.addPulse _ ?_) (reportRef_keeps ..)
  have clear := freeRuns_dropFreeRun s.ru.schedule
  exact ⟨List.Pairwise.filter _ sorted, by simp [clear], fun _ => by simp [clear], fun h => absurd h (by simp [Lock.runsFree]),
    by simp, by simp [external], fun h => absurd h (by simp), by simp⟩

theorem enterHoldover_keeps (s : State) (cause : RefCause) (locked : s.ru.lock = .locked) : KeepsPort s (enterHoldover s cause) := by
  have law : ∀ t, RefLaw 0 s.cc.modeInternal s.ru →
      RefLaw 0 s.cc.modeInternal ({ s.ru with lock := .holdover, held := 0, good := 0, fault := true, watch := none }.addFree t) := by
    rintro t ⟨sorted, -, clear, -, -, mode, -⟩
    have clear := clear locked
    have external : s.cc.modeInternal ≠ true := fun h => absurd (locked.symm.trans (mode.mpr h)) (by decide)
    refine RefLaw.addFree t ⟨sorted, ?_, fun h => absurd h (by simp), fun _ => ?_, by simp, by simp [external], fun h => absurd h (by simp),
      by simp⟩
    · simpa using clear
    · simpa using clear
  unfold enterHoldover
  dsimp only
  split
  · exact KeepsPort.trans (.of_ru rfl fun _ => law _) (reportRef_keeps ..)
  · exact KeepsPort.trans (.of_ru rfl fun _ => law _) (reportRef_keeps ..)

theorem takeInterval_keeps (s : State) (t d : Nat) (external : s.cc.modeInternal = false) : KeepsPort s (takeInterval s t d) := by
  unfold takeInterval
  split
  · next locked =>
    split
    · refine .of_ru rfl fun _ ⟨sorted, most, clear, free, watch, rest⟩ => RefLaw.addPulse _ ⟨sorted, most, clear, free, ?_, rest⟩
      exact ⟨fun _ => locked, fun _ => rfl⟩
    · exact enterHoldover_keeps s .intervalBad locked
  · split
    · unfold countGood
      split
      · exact enterLocked_keeps s t d external
      · next below =>
        refine .of_ru rfl fun small ⟨sorted, most, clear, free, watch, mode, pulse, _⟩ =>
          ⟨sorted, most, clear, free, watch, mode, pulse, ?_⟩
        show s.ru.good + 1 ≤ 15
        omega
    · exact .of_ru rfl fun _ ⟨sorted, most, clear, free, watch, mode, pulse, _⟩ =>
        ⟨sorted, most, clear, free, watch, mode, pulse, Nat.zero_le _⟩

theorem takePulse_keeps (s : State) (t : Nat) (external : s.cc.modeInternal = false) : KeepsPort s (takePulse s t) := by
  have seen : KeepsPort s (setRu s { s.ru with lastPulse := some t }) :=
    .of_ru rfl fun _ ⟨sorted, most, clear, free, watch, mode, _, good⟩ =>
      ⟨sorted, most, clear, free, watch, mode, fun h => absurd (mode.mp h) (by rw [external]; decide), good⟩
  unfold takePulse
  dsimp only
  split
  · exact seen
  · exact seen.trans (takeInterval_keeps _ _ _ external)

/-- The time base goes forward (log entry 1), and a receiver's rate code of later ticks stays the one in use. -/
theorem atTime_keeps (s : State) (t : Nat) : KeepsPort s (atTime s t) :=
  { supervision := fun law => by
      rw [supervisionLaw_iff] at law ⊢
      exact ⟨law.1, fun l => ⟨(law.2 l).1, fun x hx => (law.2 l).2.1 x (le_trans (le_max_left _ _) hx), (law.2 l).2.2⟩⟩ }

theorem execReferencePulse_keeps {s t : State} (tick : Nat) (h : execReferencePulse tick s = .next t) : KeepsPort s t := by
  unfold execReferencePulse at h
  dsimp only at h
  split at h <;> cases h
  · exact atTime_keeps s tick
  · next external => exact (atTime_keeps s tick).trans (takePulse_keeps _ _ (by simpa using external))

theorem execPulseMissing_keeps {s t : State} (h : execPulseMissing s = .next t) : KeepsPort s t := by
  unfold execPulseMissing at h
  split at h
  · cases h; exact .refl s
  · split at h <;> cases h
    · next tick _ locked => exact (atTime_keeps s tick).trans (enterHoldover_keeps _ _ locked)
    · exact .refl s

/-! ### Frame events (R79, R80, R83) -/

theorem giveFrame_keeps (s : State) (n : FrameNotice) : KeepsPort s (giveFrame s n) :=
  { supervision := fun law => by
      rw [supervisionLaw_iff] at law ⊢
      refine ⟨law.1, fun l => ⟨(law.2 l).1, (law.2 l).2.1, fun m hm => ?_⟩⟩
      obtain ⟨f, hf, count⟩ := (law.2 l).2.2 m hm
      exact ⟨f, List.mem_append_left _ hf, count⟩ }

/-- The holdover count changes the unit and reports. -/
theorem holdoverCount_cases (s : State) (u : RefUnit) (n : Nat) (mode : Bool) :
    KeepsPort { s with ru := u } { holdoverCount s with ru := u } ∧ (RefLaw n mode s.ru → RefLaw n mode (holdoverCount s).ru) := by
  unfold holdoverCount
  split
  · next holdover =>
    dsimp only
    split
    · refine ⟨.of_quietly rfl, fun ⟨sorted, most, clear, free, watch, internal, pulse, good⟩ => ?_⟩
      have one := free (by rw [holdover]; rfl)
      refine ⟨sorted, most, fun h => absurd h (by simp [reportRef]), fun _ => one, ?_, ?_, fun h => absurd h (by simp [reportRef]), good⟩
      · show s.ru.watch.isSome = true ↔ Lock.lost = .locked
        rw [watch, holdover]; decide
      · show Lock.lost = .internal ↔ _
        rw [← internal, holdover]; decide
    · exact ⟨.of_quietly rfl, id⟩
  · exact ⟨.of_quietly rfl, id⟩

theorem takeAllReports_only (s : State) : takeAllReports s = { s with rw := (takeAllReports s).rw } := by
  have fold : ∀ (l : List Report) (s : State), l.foldl takeReport s = { s with rw := (l.foldl takeReport s).rw } := by
    intro l
    induction l with
    | nil => intro s; rfl
    | cons r l ih =>
      intro s
      rw [List.foldl_cons, ih, takeReport_only]
  exact fold ..

theorem reachScheduled_keeps (s : State) (e : Sched) (rest : List Sched) (h : s.ru.schedule = e :: rest) :
    KeepsPort s (reachScheduled s e rest) := by
  unfold reachScheduled
  dsimp only
  have taken : KeepsPort s (atTime (takeAllReports s) e.time) := (takeAllReports_keeps s).trans (atTime_keeps _ _)
  have ru : (atTime (takeAllReports s) e.time).ru = s.ru := by
    rw [takeAllReports_only]
    rfl
  generalize atTime (takeAllReports s) e.time = s1 at taken ru ⊢
  rw [← ru] at h
  refine taken.trans ?_
  have owed : RefLaw 0 s1.cc.modeInternal s1.ru → RefLaw (bit e.freeRun) s1.cc.modeInternal { s1.ru with schedule := rest } :=
    fun law => law.reached h
  split
  · split
    · next free => exact .of_ru rfl fun _ law => RefLaw.addFree _ (by simpa [free, bit] using owed law)
    · next free => exact .of_ru rfl fun _ law => by simpa [free, bit] using owed law
  · unfold produceFrame
    dsimp only
    obtain ⟨quiet, counted⟩ :=
      holdoverCount_cases (setRu s1 { s1.ru with schedule := rest }) s1.ru (bit e.freeRun) s1.cc.modeInternal
    have cc : (holdoverCount (setRu s1 { s1.ru with schedule := rest })).cc = s1.cc := by
      unfold holdoverCount
      split
      · dsimp only; split <;> rfl
      · rfl
    generalize holdoverCount (setRu s1 { s1.ru with schedule := rest }) = s2 at quiet counted cc ⊢
    refine KeepsPort.then_ru (quiet.trans (giveFrame_keeps { s2 with ru := s1.ru } _)) rfl fun law => ?_
    rw [referenceLaw_iff] at law ⊢
    have after := counted (owed law.1)
    show RefLaw 0 s2.cc.modeInternal _ ∧ s2.cc.acquireCount ≤ 15
    rw [cc]
    refine ⟨?_, law.2⟩
    cases free : e.freeRun
    · rw [free] at after
      exact after
    · rw [free] at after
      exact RefLaw.addFree _ after

theorem execFrameEvent_keeps {s t : State} (h : execFrameEvent s = .next t) : KeepsPort s t := by
  unfold execFrameEvent at h
  split at h <;> cases h
  · exact .refl s
  · next schedule => exact reachScheduled_keeps s _ _ schedule

/-! ### Settings of the unit (R85 to R88) -/

theorem refAck_keeps (s : State) : KeepsPort s (refAck s) := .of_ru rfl fun _ law => law

theorem internalPeriod_keeps (s : State) (internal : s.cc.modeInternal = true) : KeepsPort s (internalPeriod s) :=
  .of_ru rfl fun _ ⟨_, _, _, _, watch, mode, rest⟩ => by
    have lock := mode.mpr internal
    exact RefLaw.addFree _ ⟨.nil, by simp [freeRuns], by simp [lock], by simp [freeRuns], watch, mode, rest⟩

theorem restartAcquire_keeps (s : State) (external : s.cc.modeInternal = false) : KeepsPort s (restartAcquire s) := by
  unfold restartAcquire
  dsimp only
  refine KeepsPort.trans (.of_ru rfl fun _ ⟨sorted, most, _, _, _, _, _, _⟩ => ?_) (reportRef_keeps ..)
  have acquire (n : Nat) (count : (freeRuns s.ru.schedule).length + n ≤ 1) :
      RefLaw n s.cc.modeInternal { s.ru with lock := .acquire, good := 0, held := 0, watch := none } :=
    ⟨sorted, count, by simp, by simp [Lock.runsFree], by simp, by simp [external], by simp, by simp⟩
  show RefLaw 0 _ (if hasFreeRun s.ru.schedule then _ else _)
  split
  · exact acquire 0 most
  · next absent =>
    have owed : (freeRuns s.ru.schedule).length + 1 ≤ 1 := by
      rw [hasFreeRun_iff] at absent
      omega
    split
    · exact RefLaw.addFree _ (acquire 1 owed)
    · exact RefLaw.addFree _ (acquire 1 owed)
    · exact acquire 0 most

/-- The mode became INTERNAL (R85). -/
theorem enterInternal_law (s : State) (internal : s.cc.modeInternal = true) : RefLaw 0 s.cc.modeInternal (enterInternal s).ru := by
  unfold enterInternal
  dsimp only
  exact RefLaw.addFree _ ⟨.nil, by simp [freeRuns], by simp, by simp [freeRuns], by simp, by simp [internal], by simp, by simp⟩

/-- The mode became EXTERNAL from INTERNAL (R86). -/
theorem enterAcquire_law (s : State) (was : RefLaw 0 true s.ru) (external : s.cc.modeInternal = false) :
    RefLaw 0 s.cc.modeInternal (enterAcquire s).ru := by
  obtain ⟨sorted, most, _, _, watch, mode, _, good⟩ := was
  have lock := mode.mpr rfl
  have stopped : ¬ s.ru.watch.isSome = true := by rw [watch, lock]; decide
  unfold enterAcquire
  exact ⟨sorted, most, by simp [reportRef], by simp [reportRef, Lock.runsFree], by simpa [reportRef] using stopped,
    by simp [reportRef, external], by simp [reportRef], good⟩

end Sys2Proof.Machine
end

section
/-! The Tally Unit, the Lighting Engine and the lamp links keep the laws. -/

namespace Sys2Proof.Machine

/-! ### Fades (R163 to R166) -/

/-- The law of the fades for one fixture (R166). -/
def FixtureLaw (f : Fixture) : Prop :=
  f.remaining ≤ 40
    ∧ ComponentLaw f.level.r f.target.r f.step.r f.remaining
    ∧ ComponentLaw f.level.g f.target.g f.step.g f.remaining
    ∧ ComponentLaw f.level.b f.target.b f.step.b f.remaining

theorem fadeLength_pos (f : Nat) : 1 ≤ fadeLength f := by unfold fadeLength; split_ifs <;> omega

theorem fadeLength_le (f : Nat) : fadeLength f ≤ 40 := by unfold fadeLength; split_ifs <;> omega

theorem absDiff_le {x y : Nat} (hx : x ≤ 65535) (hy : y ≤ 65535) : absDiff x y ≤ 65535 := by unfold absDiff; split <;> omega

@[simp] theorem absDiff_self (x : Nat) : absDiff x x = 0 := by simp [absDiff]

theorem absDiff_comm (x y : Nat) : absDiff x y = absDiff y x := by unfold absDiff; split_ifs <;> omega

/-- A level at its target needs no frame. -/
theorem ComponentLaw.still {x step n : Nat} (hx : x ≤ 65535) (hs : step ≤ 65535) : ComponentLaw x x step n :=
  ⟨hx, hx, hs, by simp⟩

/-- The step of a new fade is the distance divided by the fade length, rounded up (R164). -/
theorem ComponentLaw.fade {level target d : Nat} (hl : level ≤ 65535) (ht : target ≤ 65535) (hd : 1 ≤ d) :
    ComponentLaw level target (fadeStepSize target level d) d := by
  have most := absDiff_le ht hl
  refine ⟨hl, ht, ?_, ?_⟩
  · refine (Nat.div_le_iff_le_mul_add_pred hd).mpr ?_
    have := Nat.le_mul_of_pos_left 65535 hd
    omega
  · rw [absDiff_comm]
    have below := Nat.lt_mul_div_succ (absDiff target level + (d - 1)) hd
    rw [Nat.mul_add, Nat.mul_one] at below
    show _ ≤ d * ((absDiff target level + (d - 1)) / d)
    omega

/-- One step of a component takes one step off the distance (R165). -/
theorem ComponentLaw.step {level target step n : Nat} (h : ComponentLaw level target step (n + 1)) :
    ComponentLaw (stepComponent level target step) target step n := by
  obtain ⟨hl, ht, hs, near⟩ := h
  rw [Nat.succ_mul] at near
  refine ⟨?_, ht, hs, ?_⟩
  · unfold stepComponent
    split_ifs <;> omega
  · unfold stepComponent absDiff at *
    split_ifs at * <;> omega

theorem FixtureLaw.fadeTo {f : Fixture} {target : RGB} {clipped : Bool} {d : Nat} (h : FixtureLaw f) (hr : target.r ≤ 65535)
    (hg : target.g ≤ 65535) (hb : target.b ≤ 65535) (hd : 1 ≤ d) (most : d ≤ 40) : FixtureLaw (f.fadeTo target clipped d) := by
  obtain ⟨_, r, g, b⟩ := h
  unfold Fixture.fadeTo
  split
  · next same =>
    subst same
    exact ⟨Nat.zero_le _, .still hr (Nat.zero_le _), .still hg (Nat.zero_le _), .still hb (Nat.zero_le _)⟩
  · exact ⟨most, .fade r.1 hr hd, .fade g.1 hg hd, .fade b.1 hb hd⟩

/-- A target lies in the range of a level (R156). -/
theorem retargetOf_le {entry : Vector Word 4} {gains : RGB} {answer : Option (Fin 4 × Vector (Option RGB) 64)} {target : RGB}
    {clipped : Bool} (h : retargetOf entry gains answer = .to target clipped) :
    target.r ≤ 65535 ∧ target.g ≤ 65535 ∧ target.b ≤ 65535 := by
  unfold retargetOf at h
  split at h
  · split at h
    · cases h
    · split at h
      · cases h
      · cases h
        exact ⟨min_le_left .., min_le_left .., min_le_left ..⟩
  · split at h <;> cases h
    · have below (w : Word) (lo : Nat) : field w lo 16 ≤ 65535 := Nat.le_of_lt_succ (field_lt w lo 16)
      exact ⟨below .., below .., below ..⟩
    · exact ⟨by decide, by decide, by decide⟩

theorem FixtureLaw.retarget {f : Fixture} (entry : Vector Word 4) (gains : RGB) (answer : Option (Fin 4 × Vector (Option RGB) 64))
    (h : FixtureLaw f) : FixtureLaw (f.retarget entry gains answer) := by
  unfold Fixture.retarget
  split
  · exact h
  · next target =>
    obtain ⟨hr, hg, hb⟩ := retargetOf_le target
    exact h.fadeTo hr hg hb (fadeLength_pos _) (fadeLength_le _)

theorem FixtureLaw.stepped {f : Fixture} (h : FixtureLaw f) : FixtureLaw f.stepped := by
  obtain ⟨most, r, g, b⟩ := h
  unfold Fixture.stepped
  split
  · exact ⟨most, r, g, b⟩
  · obtain ⟨n, hn⟩ : ∃ n, f.remaining = n + 1 := ⟨f.remaining - 1, by omega⟩
    rw [hn] at r g b most
    rw [hn, Nat.add_sub_cancel]
    refine ⟨Nat.le_of_succ_le most, ?_⟩
    dsimp only
    split
    · exact ⟨.still r.2.1 r.2.2.1, .still g.2.1 g.2.2.1, .still b.2.1 b.2.2.1⟩
    · exact ⟨r.step, g.step, b.step⟩

/-- New fixtures, each from the old one in its place. -/
theorem KeepsPort.of_fixtures {s t : State} (v : Vector Fixture 128) (h : t = { s with le := { t.le with fixtures := v } })
    (law : ∀ i : Fin 128, FixtureLaw s.le.fixtures[i] → FixtureLaw v[i]) : KeepsPort s t := by
  obtain ⟨le, rfl⟩ : ∃ le : Lighting, t = { s with le := { le with fixtures := v } } := ⟨_, h⟩
  exact { fade := fun old i => law i (old i) }

theorem retargetZones_keeps (s : State) : KeepsPort s (retargetZones s) := by
  unfold retargetZones
  dsimp only
  generalize meanQuery s = answer
  refine .of_fixtures _ rfl fun i law => ?_
  rw [getElem_tabulate_fin]
  split
  · exact law.retarget ..
  · exact law

theorem retargetOne_keeps (s : State) (i : Fin 128) : KeepsPort s (retargetOne s i) := by
  unfold retargetOne
  generalize meanQuery s = answer
  refine .of_fixtures (put s.le.fixtures i _) rfl fun j law => ?_
  rcases eq_or_ne j i with rfl | other
  · rw [put_same]
    exact law.retarget ..
  · rw [put_ne _ _ _ _ other]
    exact law

theorem execShowNotice_keeps {s t : State} (h : execShowNotice s = .next t) : KeepsPort s t := by
  unfold execShowNotice at h
  split at h <;> cases h
  · exact .refl s
  · exact KeepsPort.trans (.of_quietly rfl) (retargetZones_keeps _)

theorem takeGains_keeps (kind : GainsKind) (s : State) : KeepsPort s (takeGains kind s) := by
  unfold takeGains
  split
  · exact .refl s
  · split
    · exact KeepsPort.trans (.of_quietly rfl) (retargetZones_keeps _)
    · exact .refl s

theorem execEntryNotice_keeps {s t : State} (h : execEntryNotice s = .next t) : KeepsPort s t := by
  unfold execEntryNotice at h
  split at h <;> cases h
  · exact .refl s
  · exact KeepsPort.trans (.of_quietly rfl) (retargetOne_keeps _ _)

/-! ### Lamp links (R165, R168 to R170, R177 to R180) -/

theorem setLamp_keeps (s : State) (l : Fin 2) (x : LampLink) : KeepsPort s (setLamp s l x) := .of_quietly rfl

theorem composeLamp_keeps (s : State) (l : Fin 2) : KeepsPort s (composeLamp s l) := by
  unfold composeLamp
  split
  · exact setLamp_keeps ..
  · exact .refl s

theorem stepFixtures_keeps (s : State) : KeepsPort s (stepFixtures s) := by
  unfold stepFixtures
  refine .of_fixtures _ rfl fun i law => ?_
  rw [getElem_tabulate_fin]
  exact law.stepped

theorem lightingFrame_keeps (s : State) (n : FrameNotice) : KeepsPort s (lightingFrame s n) := by
  unfold lightingFrame
  dsimp only
  refine KeepsPort.trans ?_ ((composeLamp_keeps _ 0).trans (composeLamp_keeps _ 1))
  split
  · exact .refl s
  · exact stepFixtures_keeps s

theorem execFadeStep_keeps {s t : State} (h : execFadeStep s = .next t) : KeepsPort s t := by
  unfold execFadeStep at h
  split at h <;> cases h
  · exact .refl s
  · exact KeepsPort.trans (.of_quietly rfl) (lightingFrame_keeps _ _)

theorem nextLampUnit_keeps (s : State) (l : Fin 2) : KeepsPort s (nextLampUnit s l) := by
  unfold nextLampUnit
  split
  · exact setLamp_keeps ..
  · split <;> exact setLamp_keeps ..

theorem execLampUnitFinish_keeps {s t : State} (l : Fin 2) (h : execLampUnitFinish l s = .next t) : KeepsPort s t := by
  unfold execLampUnitFinish at h
  split at h <;> cases h
  · exact .refl s
  · exact (atTime_keeps ..).trans (nextLampUnit_keeps ..)
  · exact (atTime_keeps ..).trans (nextLampUnit_keeps ..)

theorem lampDisabled_keeps (s : State) (l : Fin 2) : KeepsPort s (lampDisabled s l) := setLamp_keeps ..

theorem lampEnabled_keeps (s : State) (l : Fin 2) : KeepsPort s (lampEnabled s l) := by
  unfold lampEnabled
  split
  · exact setLamp_keeps ..
  · exact .refl s
  · exact .refl s

/-! ### Tallies (R136 to R142) -/

theorem execTallyEdge_keeps {s t : State} (i : Fin 8) (high : Bool) (h : execTallyEdge i high s = .next t) : KeepsPort s t := by
  unfold execTallyEdge at h
  split at h
  · cases h; exact .refl s
  · dsimp only at h
    cases h
    split
    · unfold selectedEdge
      split
      · exact .of_quietly rfl
      · exact .of_quietly rfl
    · exact .of_quietly rfl

theorem tallyAck_keeps (s : State) (mask : BitVec 8) : KeepsPort s (tallyAck s mask) := .of_quietly rfl

theorem giveGain_keeps (s : State) (g : Byte) : KeepsPort s (giveGain s g) := .of_quietly rfl

theorem giveGains_keeps (s : State) (n : GainsNotice) : KeepsPort s (giveGains s n) := .of_quietly rfl

theorem execTallySample_keeps {s t : State} (h : execTallySample s = .next t) : KeepsPort s t := by
  unfold execTallySample at h
  split at h <;> cases h
  · exact .refl s
  · unfold tallySample
    dsimp only
    split
    · exact .of_quietly rfl
    · exact .of_quietly rfl

end Sys2Proof.Machine
end

section
/-! Control Capture keeps the ranges of the setting words, the placement and the table entries. -/

namespace Sys2Proof.Machine

/-! ### Shadows after a write -/

theorem setting_setWord (c : Shadow) (i : Fin 20) (v : Word) (j : Nat) (h : j < 20) :
    (c.setWord (.setting i) v).setting[j] = if i.val = j then v else c.setting[j] := getElem_put ..

/-- A word that is no setting word leaves the setting words alone. -/
theorem setWord_setting (c : Shadow) (w : CWord) (v : Word) (other : ∀ i, w ≠ .setting i) : (c.setWord w v).setting = c.setting := by
  cases w with
  | setting i => exact absurd rfl (other i)
  | look i => unfold Shadow.setWord Shadow.setLook; dsimp only; cases c.selected <;> rfl
  | command i | zone z i | fixture f i | tile l i => rfl

/-! ### The setting words one by one -/

/-- What the law of the settings asks of one setting word. -/
def WordLaw (w : Word) : Nat → Prop
  | 1 => field w 0 13 % 16 = 0 ∧ 16 ≤ field w 0 13 ∧ field w 0 13 ≤ 7680
  | 2 => 1 ≤ field w 0 12 ∧ field w 0 12 ≤ 2160
  | 3 => w.toNat % 0x100000 = 0
  | 4 => w.toNat % 0x100000 = 0
  | 5 => field w 0 3 ≤ 5
  | 6 => w.toNat % 16 = 0
  | 7 => field w 0 4 ≤ 9
  | 9 => 2 ≤ field w 8 5 ∧ field w 8 5 ≤ 15
  | 10 => 400000 ≤ field w 0 23 ∧ field w 0 23 ≤ 5000000
  | 11 => 1 ≤ field w 0 17 ∧ field w 0 17 ≤ 65535
  | 13 => 1 ≤ field w 0 9 ∧ field w 0 9 ≤ 255
  | 15 => ((List.range 8).map fun p => (w.extractLsb' (3 * p) 3).toFin).Perm (List.finRange 8)
  | 16 => (∀ i : Fin 8, field w (2 * i.val) 2 ≤ 2) ∧ field w 16 2 ≤ 2
  | 17 => 24 ≤ field w 8 10 ∧ field w 8 10 ≤ 512
  | 18 => 24 ≤ field w 8 10 ∧ field w 8 10 ≤ 512
  | 19 => 1 ≤ field w 0 5 ∧ field w 0 5 ≤ 15
  | _ => True

theorem settingsLaw_iff (c : Shadow) :
    SettingsLaw c ↔ (∀ i : Fin 20, WordLaw c.setting[i] i.val) ∧ c.phaseOffset < c.period := by
  constructor
  · rintro ⟨w1, w2, w3, w4, w5, w6, w7, w9, w10, phase, w11, w13, w15, w16, w16d, lamps, w19⟩
    refine ⟨fun i => ?_, phase⟩
    have w17 := lamps 0
    have w18 := lamps 1
    fin_cases i
    exacts [trivial, w1, w2, w3, w4, w5, w6, w7, trivial, w9, w10, w11, trivial, w13, trivial, w15, ⟨w16, w16d⟩, w17, w18, w19]
  · rintro ⟨words, phase⟩
    exact ⟨words 1, words 2, words 3, words 4, words 5, words 6, words 7, words 9, words 10, phase, words 11, words 13, words 15,
      (words 16).1, (words 16).2, fun l => by fin_cases l; exacts [words 17, words 18], words 19⟩

theorem settingsLaw_congr {c c' : Shadow} (h : c'.setting = c.setting) (law : SettingsLaw c) : SettingsLaw c' := by
  rw [settingsLaw_iff] at law ⊢
  unfold Shadow.phaseOffset Shadow.period at law ⊢
  rw [h]
  exact law

/-- A setting word in its range keeps the law, if phase offset and period still agree (R76). -/
theorem settingsLaw_setWord {c : Shadow} {i : Fin 20} {v : Word} (word : SettingsLaw c → WordLaw v i.val)
    (phase : SettingsLaw c → (c.setWord (.setting i) v).phaseOffset < (c.setWord (.setting i) v).period) (law : SettingsLaw c) :
    SettingsLaw (c.setWord (.setting i) v) := by
  refine (settingsLaw_iff _).mpr ⟨fun j => ?_, phase law⟩
  rw [Fin.getElem_fin, setting_setWord]
  split
  · next e => rw [← e]; exact word law
  · exact ((settingsLaw_iff c).mp law).1 j

/-- Phase offset and period after another setting word is written. -/
theorem setWord_phase (c : Shadow) (i : Fin 20) (v : Word) (h10 : i.val ≠ 10) (h12 : i.val ≠ 12) (law : SettingsLaw c) :
    (c.setWord (.setting i) v).phaseOffset < (c.setWord (.setting i) v).period := by
  unfold Shadow.phaseOffset Shadow.period
  rw [setting_setWord, setting_setWord, if_neg h12, if_neg h10]
  exact ((settingsLaw_iff c).mp law).2

/-! ### Placement (R187) -/

/-- The placement test reads the words of the run enable, the canvas, the two bases and the ring alone. -/
theorem placementBad_congr (straps : BitVec 2) {c c' : Shadow} (h : ∀ i : Fin 20, i.val ≤ 4 ∨ i.val = 6 ∨ i.val = 7 → c'.setting[i] = c.setting[i]) :
    placementBad straps c' = placementBad straps c := by
  unfold placementBad Shadow.ringSize Shadow.bankSize Shadow.ringCode Shadow.ringBase Shadow.regionBase Shadow.canvasBase Shadow.running
    Shadow.width Shadow.height
  have h0 : c'.setting[0] = c.setting[0] := h 0 (by simp)
  have h1 : c'.setting[1] = c.setting[1] := h 1 (by simp)
  have h2 : c'.setting[2] = c.setting[2] := h 2 (by simp)
  have h3 : c'.setting[3] = c.setting[3] := h 3 (by simp)
  have h4 : c'.setting[4] = c.setting[4] := h 4 (by simp)
  have h6 : c'.setting[6] = c.setting[6] := h 6 (by simp)
  have h7 : c'.setting[7] = c.setting[7] := h 7 (by simp)
  rw [h0, h1, h2, h3, h4, h6, h7]

/-! ### Shadows replaced -/

theorem ring_of_cc {s : State} {c : Shadow} (ringCode : c.ringCode = s.cc.ringCode) (law : RingLaw s) : RingLaw { s with cc := c } := by
  unfold RingLaw Shadow.ringSize at law ⊢
  dsimp only
  rw [ringCode]
  exact law

theorem reference_of_cc {s : State} {c : Shadow} (mode : c.modeInternal = s.cc.modeInternal)
    (acquire : s.cc.acquireCount ≤ 15 → c.acquireCount ≤ 15) (law : ReferenceLaw s) : ReferenceLaw { s with cc := c } := by
  rw [referenceLaw_iff] at law ⊢
  dsimp only
  rw [mode]
  exact ⟨law.1, acquire law.2⟩

theorem supervision_of_cc {s : State} {c : Shadow} (miss : s.cc.missLimit ≤ 15 → c.missLimit ≤ 15)
    (header : ∀ l, c.linkEnable l = s.cc.linkEnable l ∧ field (c.tiles[l])[0] 1 2 = field (s.cc.tiles[l])[0] 1 2)
    (law : SupervisionLaw s) : SupervisionLaw { s with cc := c } := by
  rw [supervisionLaw_iff] at law ⊢
  refine ⟨miss law.1, fun l => ?_⟩
  obtain ⟨record, rate, join⟩ := law.2 l
  refine ⟨?_, fun t ht => (rate t ht).trans (header l).2.symm, join⟩
  rw [(header l).1]
  exact record

/-- New shadows and what follows from them, where the laws that read shadows are shown for both together. -/
theorem KeepsPort.of_shadow {s t : State} (c : Shadow) (u : RefUnit) (rest : KeepsPort { s with cc := c, ru := u } t) (settings : SettingsLaw s.cc → SettingsLaw c)
    (tables : SettingsLaw s.cc → TablesLaw s.cc → TablesLaw c) (placement : PlacementLaw s → placementBad s.straps c = false)
    (ring : RingLaw s → RingLaw t) (reference : ReferenceLaw s → ReferenceLaw t) (supervision : SupervisionLaw s → SupervisionLaw t) :
    KeepsPort s t :=
  { rest with
    settings := fun law => rest.settings (settings law)
    tables := fun law tab => rest.tables (settings law) (tables law tab)
    placement := fun law => rest.placement (placement law)
    ring, reference, supervision }

/-- New shadows, where every law that reads them holds of them. -/
theorem KeepsPort.of_cc {s : State} (c : Shadow) (settings : SettingsLaw s.cc → SettingsLaw c)
    (tables : SettingsLaw s.cc → TablesLaw s.cc → TablesLaw c) (placement : PlacementLaw s → placementBad s.straps c = false)
    (ringCode : c.ringCode = s.cc.ringCode) (mode : c.modeInternal = s.cc.modeInternal)
    (acquire : s.cc.acquireCount ≤ 15 → c.acquireCount ≤ 15) (miss : s.cc.missLimit ≤ 15 → c.missLimit ≤ 15)
    (header : ∀ l, c.linkEnable l = s.cc.linkEnable l ∧ field (c.tiles[l])[0] 1 2 = field (s.cc.tiles[l])[0] 1 2) :
    KeepsPort s { s with cc := c } :=
  .of_shadow c s.ru (.refl _) settings tables placement (ring_of_cc ringCode) (reference_of_cc mode acquire) (supervision_of_cc miss header)

/-- A setting word written with a value in its range, other than a changed ring size or mode. -/
theorem setting_keeps (s : State) (i : Fin 20) (v : Word) (word : SettingsLaw s.cc → WordLaw v i.val)
    (phase : SettingsLaw s.cc → (s.cc.setWord (.setting i) v).phaseOffset < (s.cc.setWord (.setting i) v).period)
    (placement : PlacementLaw s → placementBad s.straps (s.cc.setWord (.setting i) v) = false) (ring : i.val ≠ 7)
    (mode : i.val = 9 → v.getLsbD 0 = s.cc.modeInternal ∧ field v 8 5 ≤ 15) (miss : i.val = 19 → field v 0 5 ≤ 15) :
    KeepsPort s (setShadow s (.setting i) v) := by
  refine .of_cc _ (settingsLaw_setWord word phase) (fun _ h => h) placement ?_ ?_ ?_ ?_ fun l => ⟨rfl, rfl⟩
  · unfold Shadow.ringCode
    rw [setting_setWord, if_neg ring]
  · unfold Shadow.modeInternal
    rw [setting_setWord]
    split
    · next e => exact (mode e).1
    · rfl
  · unfold Shadow.acquireCount
    rw [setting_setWord]
    split
    · next e => exact fun _ => (mode e).2
    · exact id
  · unfold Shadow.missLimit
    rw [setting_setWord]
    split
    · next e => exact fun _ => miss e
    · exact id

/-- A word of a table, of the look block or a command word: no setting. -/
theorem table_keeps (s : State) (w : CWord) (v : Word) (other : ∀ i, w ≠ .setting i)
    (tables : SettingsLaw s.cc → TablesLaw s.cc → TablesLaw (s.cc.setWord w v))
    (header : ∀ l, (s.cc.setWord w v).linkEnable l = s.cc.linkEnable l
      ∧ field ((s.cc.setWord w v).tiles[l])[0] 1 2 = field (s.cc.tiles[l])[0] 1 2) : KeepsPort s (setShadow s w v) := by
  have same := setWord_setting s.cc w v other
  refine .of_cc _ (settingsLaw_congr same) tables ?_ ?_ ?_ ?_ ?_ header
  · intro law
    rw [placementBad_congr (c := s.cc) _ fun i _ => by rw [same]]
    exact law
  · unfold Shadow.ringCode; rw [same]
  · unfold Shadow.modeInternal; rw [same]
  · unfold Shadow.acquireCount; rw [same]; exact id
  · unfold Shadow.missLimit; rw [same]; exact id

theorem reportAdjusted_keeps (s : State) (cause off : Nat) (v : Word) : KeepsPort s (reportAdjusted s cause off v) := report_keeps ..

/-- The report of a changed value changes no law. -/
theorem shadow_takeWord (s : State) (w : CWord) (m v : Word) : KeepsPort (setShadow s w v) (takeWord s w m v) := by
  rw [takeWord_spec]
  split
  · exact .refl _
  · exact reportAdjusted_keeps ..

theorem shadow_takeWord_ru (s : State) (w : CWord) (m v : Word) (u : RefUnit) :
    KeepsPort { s with cc := s.cc.setWord w v, ru := u } { takeWord s w m v with ru := u } := by
  rw [takeWord_spec]
  split
  · exact .refl _
  · exact .of_quietly rfl

theorem takeWord_cc (s : State) (w : CWord) (m v : Word) : (takeWord s w m v).cc = s.cc.setWord w v := by rw [takeWord_only]

theorem refuseWord_keeps (s : State) (w : CWord) (cause : Nat) : KeepsPort s (refuseWord s w cause) := reportAdjusted_keeps ..

end Sys2Proof.Machine
end

section
/-! The captures of the setting words keep the laws (R185 to R192). -/

namespace Sys2Proof.Machine

/-! ### Values in range -/

theorem toNat_mod_eq_field (w : Word) (n : Nat) : w.toNat % 2 ^ n = field w 0 n := by
  refine Nat.eq_of_testBit_eq fun i => ?_
  rw [testBit_field, Nat.testBit_mod_two_pow, BitVec.testBit_toNat, Nat.zero_add]

theorem adjustBase_law (m : Word) (n : Nat) (fits : n ≤ 32) : (adjustBase m n).toNat % 2 ^ n = 0 := by
  rw [toNat_mod_eq_field _ n, (adjustBase_spec m n fits).2]

theorem adjustRank_law (m : Word) : WordLaw (adjustRank m) 15 := by
  have perm := repairRank_perm (rankCodes m) (rankCodes_lt m)
  rw [← (adjustRank_spec m).2] at perm
  generalize adjustRank m = w at perm
  refine (List.map_perm_map_iff Fin.val_injective).mp ?_
  rw [List.map_map, List.map_coe_finRange_eq_range]
  exact perm

theorem adjustCameraMap_law (m : Word) : WordLaw (adjustCameraMap m) 16 := by
  obtain ⟨-, default, inputs⟩ := adjustCameraMap_spec m
  have d := field_lt m 16 2
  have default : field (adjustCameraMap m) 16 2 ≤ 2 := by rw [default]; split <;> omega
  refine ⟨fun i => ?_, default⟩
  have := field_lt m (2 * i.val) 2
  rw [inputs i]
  split <;> omega

/-! ### Words that only take a value -/

/-- A setting word taken with a value in its range that no placement, ring, mode or period depends on. -/
theorem plainSetting_keeps (s : State) (i : Fin 20) (m v : Word) (word : WordLaw v i.val) (kind : i.val = 5 ∨ 11 ≤ i.val ∨ i.val = 8)
    (phase : i.val ≠ 12) : KeepsPort s (takeWord s (.setting i) m v) := by
  refine KeepsPort.trans (setting_keeps s i v (fun _ => word) (setWord_phase _ i v (by omega) phase) ?_ (by omega) (by omega) ?_)
    (shadow_takeWord ..)
  · intro law
    rw [placementBad_congr (c := s.cc) _ fun j hj => by rw [Fin.getElem_fin, setting_setWord, if_neg (by omega)]; rfl]
    exact law
  · intro e
    rw [e] at word
    exact word.2

theorem capturePhase_keeps (s : State) (m : Word) : KeepsPort s (takeWord s (.setting 12) m (adjustPhase s.cc m)) := by
  refine KeepsPort.trans (setting_keeps s 12 _ (fun _ => trivial) (fun law => ?_) ?_ (by decide) (by simp) (by simp))
    (shadow_takeWord ..)
  · have period := ((settingsLaw_iff _).mp law).1 10
    have bound := field_clampField m 0 23 0 (s.cc.period - 1) (by decide) (by omega) (by
      have := field_lt s.cc.setting[10] 0 23
      unfold Shadow.period
      omega)
    unfold Shadow.phaseOffset
    rw [setting_setWord, if_pos (by decide)]
    show field (adjustPhase s.cc m) 0 23 < (s.cc.setWord (.setting 12) _).period
    rw [adjustPhase, bound]
    unfold Shadow.period at *
    rw [setting_setWord, if_neg (by decide)]
    have least : 400000 ≤ field s.cc.setting[10] 0 23 := period.1
    omega
  · intro law
    rw [placementBad_congr (c := s.cc) _ fun j hj => by
      rw [Fin.getElem_fin, setting_setWord, if_neg (by change ¬ 12 = j.val; omega)]; rfl]
    exact law

/-! ### W, H and the bases (R186 to R188) -/

theorem captureLocked_keeps (s : State) (i : Fin 20) (m v : Word) (word : WordLaw v i.val) (kind : i.val ≤ 4) :
    KeepsPort s (captureLocked s (.setting i) m v) := by
  unfold captureLocked
  split
  · exact refuseWord_keeps ..
  · split
    · exact refuseWord_keeps ..
    · next placed =>
      exact KeepsPort.trans (setting_keeps s i v (fun _ => word) (setWord_phase _ i v (by omega) (by omega))
        (fun _ => by simpa using placed) (by omega) (by omega) (by omega)) (shadow_takeWord ..)

theorem ringRestart_keeps (s : State) : KeepsPort s (ringRestart s) := by
  have ring := ringRestart_ringLaw s
  have arbiter := ringRestart_arbiterLaw s
  have only := ringRestart_only s
  generalize ringRestart s = t at ring arbiter only
  obtain ⟨v, p, rfl⟩ : ∃ v p, t = { s with rw := v, passed := p } := ⟨_, _, only⟩
  exact { ring := fun _ => ring, arbiter }

/-- The ring's words: the ring that restarts is empty, whatever its size (R192). -/
theorem captureRing_keeps (s : State) (i : Fin 20) (m v : Word) (word : WordLaw v i.val) (kind : i.val = 6 ∨ i.val = 7) :
    KeepsPort s (captureRing s (.setting i) m v) := by
  unfold captureRing
  split
  · exact refuseWord_keeps ..
  · next placed =>
    have rest := (shadow_takeWord s (.setting i) m v).trans (ringRestart_keeps _)
    refine .of_shadow _ s.ru rest (settingsLaw_setWord (fun _ => word) (setWord_phase _ i v (by omega) (by omega))) (fun _ h => h)
      (fun _ => by simpa using placed) (fun _ => ringRestart_ringLaw _)
      (fun law => rest.reference (reference_of_cc ?_ ?_ law)) (fun law => rest.supervision (supervision_of_cc ?_ (fun _ => ⟨rfl, rfl⟩) law))
    · unfold Shadow.modeInternal
      rw [setting_setWord, if_neg (by omega)]
    · unfold Shadow.acquireCount
      rw [setting_setWord, if_neg (by omega)]
      exact id
    · unfold Shadow.missLimit
      rw [setting_setWord, if_neg (by omega)]
      exact id

/-! ### The Reference Unit's words (R76, R85 to R87) -/

theorem captureMode_keeps (s : State) (m : Word) : KeepsPort s (captureMode s m) := by
  unfold captureMode
  dsimp only
  have word : WordLaw (clampField m 8 5 2 15) 9 := by
    have := (clampField_spec m 8 5 2 15 (by decide) (by decide) (by decide)).2
    constructor <;> omega
  generalize clampField m 8 5 2 15 = v at word ⊢
  have taken := shadow_takeWord_ru s (.setting 9) m v
  have cc := takeWord_cc s (.setting 9) m v
  have ru : (takeWord s (.setting 9) m v).ru = s.ru := by rw [takeWord_only]
  generalize takeWord s (.setting 9) m v = s1 at taken cc ru ⊢
  have acquire : s1.cc.acquireCount ≤ 15 := by
    rw [cc, Shadow.acquireCount, setting_setWord, if_pos (by decide)]
    exact word.2
  have shadow {t : State} (rest : KeepsPort { s1 with ru := t.ru } t) (reference : ReferenceLaw s → ReferenceLaw t) : KeepsPort s t := by
    have rest := (taken t.ru).trans rest
    refine .of_shadow (s.cc.setWord (.setting 9) v) t.ru rest (settingsLaw_setWord (fun _ => word) (setWord_phase _ 9 v (by decide) (by decide))) (fun _ h => h) (fun law => ?_)
      (fun law => rest.ring (ring_of_cc (s := s) ?_ law)) reference
      (fun law => rest.supervision (supervision_of_cc (s := s) ?_ (fun _ => ⟨rfl, rfl⟩) law))
    · rw [placementBad_congr (c := s.cc) _ fun j hj => by
        rw [Fin.getElem_fin, setting_setWord, if_neg (by change ¬ 9 = j.val; omega)]; rfl]
      exact law
    · unfold Shadow.ringCode
      rw [setting_setWord, if_neg (by decide)]
    · unfold Shadow.missLimit
      rw [setting_setWord, if_neg (by decide)]
      exact id
  split
  · next h =>
    have internal : s1.cc.modeInternal = true := by simp_all
    refine shadow (.of_quietly rfl) fun _ => ?_
    exact (referenceLaw_iff _).mpr ⟨enterInternal_law s1 internal, acquire⟩
  · split
    · next h =>
      have external : s1.cc.modeInternal = false := by simp_all
      have was : s.cc.modeInternal = true := by simp_all
      refine shadow (.of_quietly rfl) fun law => ?_
      rw [referenceLaw_iff, was, ← ru] at law
      exact (referenceLaw_iff _).mpr ⟨enterAcquire_law s1 law.1 external, acquire⟩
    · have same : s1.cc.modeInternal = s.cc.modeInternal := by
        cases h : s1.cc.modeInternal <;> cases h' : s.cc.modeInternal <;> simp_all
      refine shadow (.refl s1) fun law => ?_
      rw [referenceLaw_iff] at law ⊢
      rw [ru, same]
      exact ⟨law.1, acquire⟩

theorem capturePeriod_keeps (s : State) (m : Word) : KeepsPort s (capturePeriod s m) := by
  unfold capturePeriod
  dsimp only
  have word (law : SettingsLaw s.cc) : WordLaw (adjustPeriod s.cc m) 10 ∧ s.cc.phaseOffset < field (adjustPeriod s.cc m) 0 23 := by
    obtain ⟨words, phase⟩ := (settingsLaw_iff _).mp law
    have period : s.cc.period ≤ 5000000 := (words 10).2
    have := field_clampField m 0 23 (max 400000 (s.cc.phaseOffset + 1)) 5000000 (by decide) (by omega) (by decide)
    unfold adjustPeriod
    refine ⟨⟨?_, ?_⟩, ?_⟩ <;> omega
  generalize adjustPeriod s.cc m = v at word ⊢
  have taken : KeepsPort s (takeWord s (.setting 10) m v) := by
    refine KeepsPort.trans (setting_keeps s 10 v (fun law => (word law).1) (fun law => ?_) (fun law => ?_) (by decide) (by simp) (by simp))
      (shadow_takeWord ..)
    · unfold Shadow.phaseOffset Shadow.period
      rw [setting_setWord, setting_setWord, if_neg (by decide), if_pos (by decide)]
      exact (word law).2
    · rw [placementBad_congr (c := s.cc) _ fun j hj => by
        rw [Fin.getElem_fin, setting_setWord, if_neg (by change ¬ 10 = j.val; omega)]; rfl]
      exact law
  have mode : (takeWord s (.setting 10) m v).cc.modeInternal = s.cc.modeInternal := by
    rw [takeWord_cc, Shadow.modeInternal, setting_setWord, if_neg (by decide)]
    rfl
  split
  · exact taken
  · split
    · next internal => exact taken.trans (internalPeriod_keeps _ (mode.trans internal))
    · next external => exact taken.trans (restartAcquire_keeps _ (mode.trans (by simpa using external)))

theorem captureTolerance_keeps (s : State) (m : Word) : KeepsPort s (captureTolerance s m) := by
  unfold captureTolerance
  dsimp only
  have word := (clampField_spec m 0 17 1 65535 (by decide) (by decide) (by decide)).2
  generalize clampField m 0 17 1 65535 = v at word ⊢
  have taken : KeepsPort s (takeWord s (.setting 11) m v) :=
    plainSetting_keeps s 11 m v (by constructor <;> omega) (by decide) (by decide)
  have mode : (takeWord s (.setting 11) m v).cc.modeInternal = s.cc.modeInternal := by
    rw [takeWord_cc, Shadow.modeInternal, setting_setWord, if_neg (by decide)]
    rfl
  split
  · exact taken
  · split
    · exact taken
    · next external => exact taken.trans (restartAcquire_keeps _ (mode.trans (by simpa using external)))

/-! ### Lamp setups, the run enable, and the word of any setting -/

theorem captureLamp_keeps (s : State) (i : Fin 20) (l : Fin 2) (m : Word) (kind : i.val = 17 ∨ i.val = 18) :
    KeepsPort s (captureLamp s (.setting i) l m) := by
  have word : WordLaw (adjustLamp m) i.val := by
    have := (clampField_spec m 8 10 24 512 (by decide) (by decide) (by decide)).2
    unfold adjustLamp
    rcases kind with e | e <;> rw [e] <;> constructor <;> omega
  have taken := plainSetting_keeps s i m (adjustLamp m) word (by omega) (by omega)
  unfold captureLamp
  dsimp only
  split
  · exact taken.trans (lampEnabled_keeps ..)
  · split
    · exact taken.trans (lampDisabled_keeps ..)
    · exact taken

theorem overlap_comm (b1 n1 b2 n2 : Nat) : overlap b1 n1 b2 n2 = overlap b2 n2 b1 n1 := by
  unfold overlap
  rw [Bool.and_comm (decide (0 < n1)), Bool.and_assoc, Bool.and_comm (decide (b1 < b2 + n2)), ← Bool.and_assoc]

/-- The placement test holds with the run enable set where no two ranges overlap (R187, R189). -/
theorem placement_of_run {straps : BitVec 2} {c c' : Shadow} (same : ∀ i : Fin 20, 1 ≤ i.val → c'.setting[i] = c.setting[i])
    (law : placementBad straps c = false) (run : c'.running = true → c.running = true ∨ rangesOverlap straps c = false) :
    placementBad straps c' = false := by
  have bankSize : c'.bankSize = c.bankSize := by
    unfold Shadow.bankSize Shadow.width Shadow.height
    rw [show c'.setting[1] = c.setting[1] from same 1 (by decide), show c'.setting[2] = c.setting[2] from same 2 (by decide)]
  have canvas : c'.canvasBase = c.canvasBase := congrArg BitVec.toNat (same 3 (by decide))
  have region : c'.regionBase = c.regionBase := congrArg BitVec.toNat (same 4 (by decide))
  have ring : c'.ringBase = c.ringBase := congrArg BitVec.toNat (same 6 (by decide))
  have code : c'.ringCode = c.ringCode := congrArg (field · 0 4) (same 7 (by decide))
  have size : c'.ringSize = c.ringSize := congrArg ringSizeOf code
  unfold placementBad at law ⊢
  rw [bankSize, canvas, region, ring, code, size]
  simp only [Bool.or_eq_false_iff, Bool.and_eq_false_iff] at law ⊢
  refine ⟨law.1, ?_⟩
  cases set : c'.running
  · exact .inl rfl
  · refine .inr ?_
    rcases run set with running | clear
    · exact law.2.resolve_left (by simp [running])
    · unfold rangesOverlap at clear
      simp only [Bool.or_eq_false_iff] at clear
      obtain ⟨⟨⟨-, apart⟩, -⟩, -⟩ := clear
      exact (overlap_comm ..).trans apart

theorem enables_keeps (s : State) (v : Word) (run : v.getLsbD 0 = true → s.cc.running = true ∨ rangesOverlap s.straps s.cc = false) :
    KeepsPort s (setShadow s (.setting 0) v) := by
  refine setting_keeps s 0 v (fun _ => trivial) (setWord_phase _ 0 v (by decide) (by decide)) (fun law => ?_) (by decide) (by simp) (by simp)
  refine placement_of_run (fun i hi => ?_) law fun set => run ?_
  · rw [Fin.getElem_fin, setting_setWord, if_neg (by change ¬ 0 = i.val; omega)]
    rfl
  · rwa [Shadow.running, setting_setWord, if_pos (by decide)] at set

theorem captureEnables_keeps (s : State) (m : Word) : KeepsPort s (captureEnables s m) := by
  unfold captureEnables
  dsimp only
  split
  · split
    · refine (enables_keeps s _ fun h => absurd h ?_).trans (reportAdjusted_keeps ..)
      rw [getLsbD_setField _ _ _ _ _ (by decide)]
      simp
    · next clear => exact enables_keeps s m fun _ => .inr (by simpa using clear)
  · next set =>
    split
    · next stop => exact (enables_keeps s m fun h => absurd stop (by simp [h])).trans (resetWall_keeps _)
    · exact enables_keeps s m fun h => .inl (by simpa [h] using set)

theorem captureSetting_keeps (s : State) (i : Fin 20) (m : Word) : KeepsPort s (captureSetting s i m) := by
  unfold captureSetting
  split
  · exact captureEnables_keeps s m
  · refine captureLocked_keeps s 1 m _ ?_ (by decide)
    have := (adjustWidth_spec m).2
    refine ⟨?_, ?_, ?_⟩ <;> omega
  · refine captureLocked_keeps s 2 m _ ?_ (by decide)
    have := (clampField_spec m 0 12 1 2160 (by decide) (by decide) (by decide)).2
    constructor <;> omega
  · exact captureLocked_keeps s 3 m _ (adjustBase_law m 20 (by decide)) (by decide)
  · exact captureLocked_keeps s 4 m _ (adjustBase_law m 20 (by decide)) (by decide)
  · refine plainSetting_keeps s 5 m _ ?_ (by decide) (by decide)
    show field (adjustOrder m) 0 3 ≤ 5
    rw [(adjustOrder_spec m).2]
    split <;> omega
  · exact captureRing_keeps s 6 m _ (adjustBase_law m 4 (by decide)) (by decide)
  · refine captureRing_keeps s 7 m _ ?_ (by decide)
    have := (clampField_spec m 0 4 0 9 (by decide) (by decide) (by decide)).2
    show field _ 0 4 ≤ 9
    omega
  · exact plainSetting_keeps s 8 m _ trivial (by decide) (by decide)
  · exact captureMode_keeps s m
  · exact capturePeriod_keeps s m
  · exact captureTolerance_keeps s m
  · exact capturePhase_keeps s m
  · refine plainSetting_keeps s 13 m _ ?_ (by decide) (by decide)
    have := (clampField_spec m 0 9 1 255 (by decide) (by decide) (by decide)).2
    constructor <;> omega
  · exact plainSetting_keeps s 14 m _ trivial (by decide) (by decide)
  · exact plainSetting_keeps s 15 m _ (adjustRank_law m) (by decide) (by decide)
  · exact plainSetting_keeps s 16 m _ (adjustCameraMap_law m) (by decide) (by decide)
  · exact captureLamp_keeps s 17 0 m (by decide)
  · exact captureLamp_keeps s 18 1 m (by decide)
  · refine plainSetting_keeps s 19 m _ ?_ (by decide) (by decide)
    have := (clampField_spec m 0 5 1 15 (by decide) (by decide) (by decide)).2
    constructor <;> omega

end Sys2Proof.Machine
end

section
/-! The captures of command words, look words and tables keep the laws, and with them every captured write (R185). -/

namespace Sys2Proof.Machine

/-! ### The tables word by word (R57, R58, R94, R95, R153) -/

/-- What the law of the tables asks of a word of a zone entry. -/
def ZoneWordLaw (w : Word) : Nat → Prop
  | 0 => field w 8 5 ≤ 16
  | 1 => field w 0 9 ≤ field w 16 9 ∧ field w 16 9 ≤ 479
  | 2 => field w 0 12 ≤ field w 16 12 ∧ field w 16 12 ≤ 2159
  | _ => True

/-- What it asks of a word of a fixture entry. -/
def FixtureWordLaw (w : Word) (i : Nat) : Prop := i = 0 → field w 0 2 ≤ 2

/-- What it asks of a word of a tile map. -/
def TileWordLaw (w : Word) (i : Nat) : Prop :=
  (i = 0 → (1 ≤ field w 3 5 ∧ field w 3 5 ≤ 16) ∧ (field w 8 10 % 16 = 0 ∧ 16 ≤ field w 8 10 ∧ field w 8 10 ≤ 512)
      ∧ (1 ≤ field w 18 10 ∧ field w 18 10 ≤ 512))
    ∧ (2 ≤ i → i < 18 → field w 0 13 % 16 = 0 ∧ field w 0 13 ≤ 7664 ∧ field w 16 12 ≤ 2159)

theorem tablesLaw_iff (c : Shadow) :
    TablesLaw c ↔ field c.command[5] 0 2 ≤ 2 ∧ (∀ (z : Fin 64) (i : Fin 4), ZoneWordLaw (c.zones[z])[i] i.val)
      ∧ (∀ (f : Fin 128) (i : Fin 4), FixtureWordLaw (c.fixtures[f])[i] i.val)
      ∧ ∀ (l : Fin 24) (i : Fin 32), TileWordLaw (c.tiles[l])[i] i.val := by
  constructor
  · rintro ⟨selector, zones, fixtures, headers, records⟩
    refine ⟨selector, fun z i => ?_, fun f i h => ?_, fun l i => ⟨fun h => ?_, records l i⟩⟩
    · obtain ⟨clip, s, s1, y, y1⟩ := zones z
      fin_cases i
      exacts [clip, ⟨s, s1⟩, ⟨y, y1⟩, trivial]
    · obtain rfl : i = 0 := Fin.ext h
      exact fixtures f
    · obtain rfl : i = 0 := Fin.ext h
      exact headers l
  · rintro ⟨selector, zones, fixtures, tiles⟩
    refine ⟨selector, fun z => ?_, fun f => fixtures f 0 rfl, fun l => (tiles l 0).1 rfl, fun l r => (tiles l r).2⟩
    exact ⟨zones z 0, (zones z 1).1, (zones z 1).2, (zones z 2).1, (zones z 2).2⟩

/-- A word of a table replaced: each word meets what is asked of it, if the new one does. -/
theorem table_put {m n : Nat} {P : Word → Nat → Prop} {v : Vector (Vector Word n) m} {z : Fin m} {i : Fin n} {w : Word}
    (old : ∀ (z : Fin m) (i : Fin n), P (v[z])[i] i.val) (new : P w i.val) (z' : Fin m) (i' : Fin n) :
    P ((put v z (put v[z] i w))[z'])[i'] i'.val := by
  rcases eq_or_ne z' z with rfl | other
  · rw [put_same]
    rcases eq_or_ne i' i with rfl | other
    · rw [put_same]; exact new
    · rw [put_ne _ _ _ _ other]; exact old z' i'
  · rw [put_ne _ _ _ _ other]; exact old z' i'

theorem adjustZone_law (c : Shadow) (law : SettingsLaw c) (i : Fin 4) (m : Word) : ZoneWordLaw (adjustZone c i m) i.val := by
  obtain ⟨⟨_, _, width⟩, ⟨_, height⟩, _⟩ := law
  match i with
  | 0 =>
    have := (adjustClip_spec c m).2
    show field (adjustZone c 0 m) 8 5 ≤ 16
    omega
  | 1 =>
    obtain ⟨low, high, -⟩ := adjustPair_spec m 9 (c.columns - 1) (by decide)
    have columns : c.columns ≤ 480 := by unfold Shadow.columns; omega
    exact ⟨by rw [adjustZone, low, high]; omega, by rw [adjustZone, high]; omega⟩
  | 2 =>
    obtain ⟨low, high, -⟩ := adjustPair_spec m 12 (c.height - 1) (by decide)
    exact ⟨by rw [adjustZone, low, high]; omega, by rw [adjustZone, high]; omega⟩
  | 3 => exact trivial

theorem adjustFixture_law (i : Fin 4) (m : Word) : FixtureWordLaw (adjustFixture i m) i.val := by
  intro h
  obtain rfl : i = 0 := Fin.ext h
  have := field_lt m 0 2
  rw [(adjustFixture_spec m).2]
  split <;> omega

theorem adjustHeader_law (m : Word) : TileWordLaw (adjustHeader m) 0 := by
  obtain ⟨-, count, width, height⟩ := adjustHeader_adjusted m
  exact ⟨fun _ => by omega, fun h => absurd h (by decide)⟩

theorem adjustRecord_law (c : Shadow) (l : Fin 24) (m : Word) (i : Nat) (h : i ≠ 0) : TileWordLaw (adjustRecord c l m) i := by
  obtain ⟨x0, y0, -⟩ := adjustRecord_adjusted c l m
  exact ⟨fun e => absurd e h, fun _ _ => by omega⟩

/-! ### Words of the tables -/

theorem captureZone_keeps (s : State) (z : Fin 64) (i : Fin 4) (m : Word) :
    KeepsPort s (takeWord s (.zone z i) m (adjustZone s.cc i m)) := by
  refine KeepsPort.trans (table_keeps s (.zone z i) (adjustZone s.cc i m) (by simp) (fun settings tables => ?_) fun l => ⟨rfl, rfl⟩) (shadow_takeWord ..)
  obtain ⟨selector, zones, rest⟩ := (tablesLaw_iff _).mp tables
  exact (tablesLaw_iff _).mpr ⟨selector, table_put zones (adjustZone_law s.cc settings i m), rest⟩

theorem captureFixture_keeps (s : State) (f : Fin 128) (i : Fin 4) (m : Word) :
    KeepsPort s (takeWord s (.fixture f i) m (adjustFixture i m)) := by
  refine KeepsPort.trans (table_keeps s (.fixture f i) (adjustFixture i m) (by simp) (fun _ tables => ?_) fun l => ⟨rfl, rfl⟩)
    (shadow_takeWord ..)
  obtain ⟨selector, zones, fixtures, tiles⟩ := (tablesLaw_iff _).mp tables
  exact (tablesLaw_iff _).mpr ⟨selector, zones, table_put fixtures (adjustFixture_law i m), tiles⟩

theorem tile_tables {c : Shadow} (l : Fin 24) (i : Fin 32) {v : Word} (word : TileWordLaw v i.val) (tables : TablesLaw c) :
    TablesLaw (c.setWord (.tile l i) v) := by
  obtain ⟨selector, zones, fixtures, tiles⟩ := (tablesLaw_iff _).mp tables
  exact (tablesLaw_iff _).mpr ⟨selector, zones, fixtures, table_put tiles word⟩

theorem raiseResend_keeps (s : State) : KeepsPort s (raiseResend s) := .of_quietly rfl

/-- A word of a tile map other than its header. -/
theorem tileWord_keeps (s : State) (l : Fin 24) (i : Fin 32) (m v : Word) (word : TileWordLaw v i.val) (h : i ≠ 0) :
    KeepsPort s (takeWord s (.tile l i) m v) := by
  refine KeepsPort.trans (table_keeps s (.tile l i) v (by simp) (fun _ => tile_tables l i word) fun l' => ?_) (shadow_takeWord ..)
  have header : ((put s.cc.tiles l (put s.cc.tiles[l] i v))[l'])[(0 : Fin 32)] = (s.cc.tiles[l'])[(0 : Fin 32)] := by
    rcases eq_or_ne l' l with rfl | other
    · rw [put_same, put_ne _ _ _ _ h.symm]
    · rw [put_ne _ _ _ _ other]
  exact ⟨congrArg (·.getLsbD 0) header, congrArg (field · 1 2) header⟩

/-! ### The header of a tile map (R114, R129, R200) -/

theorem rateAt_noteRate (s : State) (l i : Fin 24) (t : Nat) (h : s.now ≤ t) :
    rateAt (noteRate s l) i t = if i = l then field (s.cc.tiles[l])[0] 1 2 else rateAt s i t := by
  unfold rateAt noteRate
  dsimp only
  rcases eq_or_ne i l with rfl | other
  · rw [put_same, if_pos rfl, List.find?_cons_of_pos (by simpa using h)]
  · rw [put_ne _ _ _ _ other, if_neg other]

theorem noteRate_keeps (s : State) (l : Fin 24) : KeepsPort s (noteRate s l) := by
  refine .of_lsv rfl fun law => ?_
  rw [supervisionLaw_iff] at law ⊢
  refine ⟨law.1, fun i => ⟨(law.2 i).1, fun t ht => ?_, (law.2 i).2.2⟩⟩
  rw [rateAt_noteRate s l i t ht]
  split
  · next e => rw [e]; rfl
  · exact (law.2 i).2.1 t ht

theorem RecordLaw.enabled {e : Bool} {r : LinkRecord} (h : RecordLaw e r) :
    RecordLaw true { r with state := .recover, miss := 0 } := by
  obtain ⟨off, empty, -⟩ := h
  refine ⟨by simp, ?_, by simp, by simp⟩
  rintro (h | h)
  · exact absurd h (by simp)
  · exact empty (.inr h)

theorem RecordLaw.disabled {e : Bool} {r : LinkRecord} (h : RecordLaw e r) : RecordLaw false { r with state := .off, buffer := none } := by
  obtain ⟨-, -, miss, -⟩ := h
  exact ⟨by simp, fun _ => rfl, miss, by simp⟩

theorem txEnabled_keeps (s : State) (l : Fin 24) : KeepsPort s (txEnabled s l) := by
  unfold txEnabled
  split
  · exact beginIdle_keeps s l
  · exact .refl s

theorem txDisabled_keeps (s : State) (l : Fin 24) : KeepsPort s (txDisabled s l) := setTx_keeps s l _ (.inr rfl)

/-- A transmitter's part of a link enable touches neither shadows, nor the Link Supervisor, nor the time. -/
theorem txEnabled_only (s : State) (l : Fin 24) : txEnabled s l = { s with tx := (txEnabled s l).tx, so := (txEnabled s l).so } := by
  unfold txEnabled
  split
  · unfold beginIdle
    rw [starveTest_only]
    rfl
  · rfl

theorem txDisabled_only (s : State) (l : Fin 24) : txDisabled s l = { s with tx := (txDisabled s l).tx, so := (txDisabled s l).so } := rfl

theorem supervisionLaw_of {s t : State} (now : t.now = s.now) (cc : t.cc = s.cc) (lsv : t.lsv = s.lsv) (law : SupervisionLaw s) :
    SupervisionLaw t := by
  unfold SupervisionLaw rateAt at *
  rw [now, cc, lsv]
  exact law

theorem changeLink_now (s : State) (l : Fin 24) (r : LinkRecord) (cause : LinkCause) : (changeLink s l r cause).now = s.now := by
  rw [changeLink_spec]

/-- A changed link enable: the link's record changes by it, and the laws that do not tie the two are kept. -/
theorem linkEnableEffect_keeps (s0 s : State) (l : Fin 24) : KeepsPort s (linkEnableEffect s0 s l) := by
  unfold linkEnableEffect
  split
  · next set =>
    refine (txEnabled_keeps s l).trans ?_
    have cc : (txEnabled s l).cc = s.cc := by rw [txEnabled_only]
    refine changeLink_keeps _ l _ _ fun _ record => ?_
    rw [cc] at record ⊢
    rw [(by simp_all : s.cc.linkEnable l = true)] at record ⊢
    exact record.enabled
  · split
    · next cleared =>
      refine (txDisabled_keeps s l).trans (changeLink_keeps _ l _ _ fun _ record => ?_)
      rw [show (txDisabled s l).cc.linkEnable l = false from by show s.cc.linkEnable l = false; simp_all] at record ⊢
      exact record.disabled
    · exact .refl s

/-- With the enable as it was the link's record met the law, so with its changed enable the changed record does (R129). -/
theorem linkEnableEffect_supervision (s0 s : State) (l : Fin 24) (miss : s.cc.missLimit ≤ 15)
    (links : ∀ i : Fin 24, RecordLaw (s0.cc.linkEnable i) s.lsv.links[i] ∧ RateLaw s i ∧ JoinLaw s i)
    (others : ∀ i, i ≠ l → s.cc.linkEnable i = s0.cc.linkEnable i) : SupervisionLaw (linkEnableEffect s0 s l) := by
  have changed (r : LinkRecord) (h : RecordLaw (s.cc.linkEnable l) r) :
      SupervisionLaw { s with lsv := { s.lsv with links := put s.lsv.links l r } } := by
    refine (supervisionLaw_iff _).mpr ⟨miss, fun i => ⟨?_, (links i).2⟩⟩
    dsimp only
    rcases eq_or_ne i l with rfl | other
    · rw [put_same]; exact h
    · rw [put_ne _ _ _ _ other, others i other]; exact (links i).1
  have record := (links l).1
  unfold linkEnableEffect
  split
  · next set =>
    have enable : s.cc.linkEnable l = true := by simp_all
    have only := txEnabled_only s l
    refine supervisionLaw_of ?_ ?_ ?_ (changed { s.lsv.links[l] with state := .recover, miss := 0 } (by rw [enable]; exact record.enabled))
    · rw [linkEnabled, changeLink_now, only]
    · rw [linkEnabled, changeLink_cc, only]
    · rw [linkEnabled, changeLink_lsv, only]
  · split
    · next cleared =>
      have enable : s.cc.linkEnable l = false := by simp_all
      refine supervisionLaw_of ?_ ?_ ?_ (changed { s.lsv.links[l] with state := .off, buffer := none } (by rw [enable]; exact record.disabled))
      · rw [linkDisabled, changeLink_now]; rfl
      · rw [linkDisabled, changeLink_cc]; rfl
      · rw [linkDisabled, changeLink_lsv]; rfl
    · next h1 h2 =>
      have same : s.cc.linkEnable l = s0.cc.linkEnable l := by
        cases e : s.cc.linkEnable l <;> cases e' : s0.cc.linkEnable l <;> simp_all
      refine (supervisionLaw_iff _).mpr ⟨miss, fun i => ?_⟩
      rcases eq_or_ne i l with rfl | other
      · rw [same]; exact links i
      · rw [others i other]; exact links i

theorem captureHeader_keeps (s : State) (l : Fin 24) (m : Word) :
    KeepsPort s (linkEnableEffect s (noteRate (takeWord s (.tile l 0) m (adjustHeader m)) l) l) := by
  have word := adjustHeader_law m
  generalize adjustHeader m = v at word ⊢
  have only := takeWord_only s (.tile l 0) m v
  have taken := shadow_takeWord s (.tile l 0) m v
  generalize takeWord s (.tile l 0) m v = s1 at only taken ⊢
  have cc : s1.cc = s.cc.setWord (.tile l 0) v := by rw [only]
  have rest := taken.trans ((noteRate_keeps s1 l).trans (linkEnableEffect_keeps s _ l))
  have tables := tile_tables (c := s.cc) l 0 (v := v) word
  refine .of_shadow (s.cc.setWord (.tile l 0) v) s.ru rest (settingsLaw_congr rfl) (fun _ => tables) ?_
    (fun law => rest.ring (ring_of_cc (s := s) rfl law)) (fun law => rest.reference (reference_of_cc (s := s) rfl id law)) fun law => ?_
  · intro law
    exact (placementBad_congr (c := s.cc) (c' := s.cc.setWord (.tile l 0) v) _ fun _ _ => rfl).trans law
  · have others (i : Fin 24) (other : i ≠ l) : (s.cc.setWord (.tile l 0) v).tiles[i] = s.cc.tiles[i] := put_ne _ _ _ _ other
    rw [supervisionLaw_iff] at law
    refine linkEnableEffect_supervision s _ l ?_ (fun i => ⟨?_, fun t ht => ?_, ?_⟩) fun i other => ?_
    · show s1.cc.missLimit ≤ 15
      rw [cc]
      exact law.1
    · show RecordLaw _ s1.lsv.links[i]
      rw [only]
      exact (law.2 i).1
    · rw [rateAt_noteRate s1 l i t ht]
      show _ = field (s1.cc.tiles[i])[0] 1 2
      split
      · next e => rw [e]
      · next other =>
        rw [only] at ht ⊢
        exact ((law.2 i).2.1 t ht).trans (congrArg (fun w => field w[0] 1 2) (others i other).symm)
    · show JoinLaw s1 i
      rw [only]
      exact (law.2 i).2.2
    · show s1.cc.linkEnable i = _
      rw [cc]
      exact congrArg (fun w => w[0].getLsbD 0) (others i other)

theorem captureTile_keeps (s : State) (l : Fin 24) (i : Fin 32) (m : Word) : KeepsPort s (captureTile s l i m) := by
  unfold captureTile
  split
  · next e =>
    subst e
    exact (captureHeader_keeps s l m).trans (raiseResend_keeps _)
  · next header =>
    have nonzero : i.val ≠ 0 := fun e => header (Fin.ext e)
    split
    · next e =>
      subst e
      exact (tileWord_keeps s l 1 m m ⟨fun h => absurd h (by decide), fun h => absurd h (by decide)⟩ header).trans (raiseResend_keeps _)
    · next trims =>
      split
      · exact (tileWord_keeps s l i m _ (adjustRecord_law s.cc l m _ nonzero) header).trans (raiseResend_keeps _)
      · exact tileWord_keeps s l i m m ⟨fun h => absurd h nonzero, fun _ h => by omega⟩ header

/-! ### Command words and look words (R190, R146) -/

/-- A command word's shadow, which no law reads but for the edit selector's. -/
theorem command_keeps (s : State) (i : Fin 7) (v : Word) (selector : i.val = 5 → field v 0 2 ≤ 2) :
    KeepsPort s (setShadow s (.command i) v) := by
  refine table_keeps s (.command i) v (by simp) (fun _ tables => ?_) fun l => ⟨rfl, rfl⟩
  obtain ⟨old, rest⟩ := (tablesLaw_iff _).mp tables
  refine (tablesLaw_iff _).mpr ⟨?_, rest⟩
  have read : (s.cc.setWord (.command i) v).command[5] = if i.val = 5 then v else s.cc.command[5] := getElem_put ..
  rw [read]
  split
  · next e => exact selector e
  · exact old

theorem captureSelector_keeps (s : State) (m : Word) : KeepsPort s (captureSelector s m) := by
  have small := field_lt m 0 2
  unfold captureSelector
  split
  · exact refuseWord_keeps ..
  · exact command_keeps s 5 m fun _ => by omega

/-- The consumer index moves up to the producer index at most (R195). -/
theorem setConsumer_keeps (s : State) (v : Nat) (ok : consumerOk s v = true) : KeepsPort s { s with rw := { s.rw with cons := v } } := by
  refine .of_rw rfl (fun law => ?_) id
  rw [ringLaw_iff] at law ⊢
  obtain ⟨⟨off, on, short⟩, claim⟩ := law
  unfold consumerOk at ok
  split at ok
  · next code =>
    have none : s.cc.ringSize = 0 := by rw [Shadow.ringSize, code]; rfl
    obtain ⟨alloc, prod, cons, rest⟩ := off none
    have zero : v = 0 := by simpa using ok
    exact ⟨⟨fun _ => ⟨alloc, prod, zero, rest⟩, fun pos => absurd pos (by show ¬ 0 < s.cc.ringSize; omega), short⟩, claim⟩
  · simp only [Bool.and_eq_true, decide_eq_true_eq] at ok
    refine ⟨⟨fun none => absurd ok.1 (by change s.cc.ringSize = 0 at none; omega), fun pos => ?_, short⟩, claim⟩
    obtain ⟨indices, slots, owed⟩ := on pos
    exact ⟨indices.consume ok.1 ok.2, slots, owed⟩

theorem captureConsumer_keeps (s : State) (m : Word) : KeepsPort s (captureConsumer s m) := by
  unfold captureConsumer
  dsimp only
  split
  · next ok => exact (command_keeps s 6 m (by simp)).trans (setConsumer_keeps (setShadow s (.command 6) m) _ ok)
  · exact refuseWord_keeps ..

theorem captureCommand_keeps (s : State) (i : Fin 7) (m : Word) : KeepsPort s (captureCommand s i m) := by
  have taken (i : Fin 7) (h : i.val ≠ 5) := command_keeps s i m fun e => absurd e h
  match i with
  | 0 => exact (taken 0 (by decide)).trans (takeCommit_keeps ..)
  | 1 => exact (taken 1 (by decide)).trans (resetWall_keeps _)
  | 2 => exact (taken 2 (by decide)).trans (clearLinks_keeps ..)
  | 3 => exact (taken 3 (by decide)).trans (refAck_keeps _)
  | 4 => exact (taken 4 (by decide)).trans (tallyAck_keeps ..)
  | 5 => exact captureSelector_keeps s m
  | 6 => exact captureConsumer_keeps s m

theorem captureLook_keeps (s : State) (i : Fin 2) (m : Word) : KeepsPort s (captureLook s i m) := by
  have same : s.cc.setWord (.look i) m = { s.cc with
      lookA := (s.cc.setWord (.look i) m).lookA, lookB := (s.cc.setWord (.look i) m).lookB, lookC := (s.cc.setWord (.look i) m).lookC } := by
    unfold Shadow.setWord Shadow.setLook
    dsimp only
    split <;> rfl
  have taken : KeepsPort s (setShadow s (.look i) m) := by
    refine table_keeps s (.look i) m (by simp) (fun _ tables => ?_) fun l => ?_
    · rw [same]; exact tables
    · rw [same]; exact ⟨rfl, rfl⟩
  unfold captureLook
  dsimp only
  split
  · split
    · exact taken.trans (giveGain_keeps ..)
    · exact taken.trans (giveGains_keeps ..)
  · exact taken

/-! ### A captured write (R185) -/

theorem captureMerged_keeps (s : State) (w : CWord) (m : Word) : KeepsPort s (captureMerged s w m) := by
  cases w with
  | setting i => exact captureSetting_keeps s i m
  | command i => exact captureCommand_keeps s i m
  | look i => exact captureLook_keeps s i m
  | zone z i => exact captureZone_keeps s z i m
  | fixture f i => exact captureFixture_keeps s f i m
  | tile l i => exact captureTile_keeps s l i m

theorem captureAt_keeps (cells : List Host.Cell) (s : State) (off : Nat) : KeepsPort s (captureAt cells s off) := by
  unfold captureAt
  split
  · exact .refl s
  · dsimp only
    split
    · exact captureMerged_keeps ..
    · exact .refl s

theorem entryWritten_keeps (s : State) (i : Fin 128) : KeepsPort s (entryWritten s i) := by
  unfold entryWritten
  dsimp only
  split
  · exact .of_quietly rfl
  · exact .of_quietly rfl

theorem captureQuarter_keeps (cells : List Host.Cell) (s : State) (off : Nat) : KeepsPort s (captureQuarter cells s off) := by
  have words := KeepsPort.foldl (captureAt_keeps cells) [off, off + 4, off + 8, off + 12] s
  unfold captureQuarter
  dsimp only
  split
  · split
    · exact words.trans (entryWritten_keeps ..)
    · exact words
  · exact words

theorem captureWrite_keeps (s : State) (cells : List Host.Cell) (block : Nat) : KeepsPort s (captureWrite s cells block) :=
  .foldl (captureQuarter_keeps cells) _ s

end Sys2Proof.Machine
end

section
/-! The System Port keeps the laws: requests taken up, refused, claimed and finished (R32 to R47). -/

namespace Sys2Proof.Machine

/-! ### Finishing and claiming -/

theorem respond_keeps (s : State) (r : Response) : Keeps s (respond s r) := {}

/-- A port that waits for no data finishes its request (R35). -/
theorem finish_keeps {s : State} (r : Response) (rests : Resting s) : Keeps s (finishRequest s r) :=
  Keeps.of_port (s := s) ⟨.idle, false, s.port.arrived, s.port.responses ++ [r]⟩ rests (fun _ => rfl) (by simp)

theorem refuseRequest_keeps (s : State) (r : Request) (reason : PortReason) (rests : Resting s) : Keeps s (refuseRequest s r reason) := by
  unfold refuseRequest
  have reported := report_keeps s .portError reason.code r.addr (pack [(kindCode r.kind, 0), (r.beats.toNat, 8)])
  exact reported.toKeeps.trans (finish_keeps _ (reported.resting rests))

theorem noteDiscard_keeps (s : State) (r : Request) (g : ShieldRange) : KeepsPort s (noteDiscard s r g) := by
  unfold noteDiscard
  dsimp only
  split
  · exact .of_quietly rfl
  · exact .of_quietly rfl

theorem noteDiscards_keeps (s : State) (r : Request) (cells : List Host.Cell) : KeepsPort s (noteDiscards s r cells) := by
  unfold noteDiscards
  obtain ⟨classOf, h⟩ : ∃ f, f = s.classOf := ⟨_, rfl⟩
  rw [← h]
  split
  · exact .refl s
  · split
    · exact noteDiscard_keeps s r _
    · exact .refl s
    · exact .refl s
    · exact .refl s

/-! ### Requests taken up -/

theorem takeControlWrite_keeps (s : State) (cells : List Host.Cell) (block : Nat) (rests : Resting s) :
    Keeps s (takeControlWrite s cells block) := by
  have captured := captureWrite_keeps s cells block
  unfold takeControlWrite
  dsimp only
  generalize captureWrite s cells block = s1 at captured ⊢
  refine captured.toKeeps.trans (claim_keeps _ (captured.resting rests) ?_ ?_)
  · dsimp only; split <;> simp
  · dsimp only; split <;> simp

theorem takePlainWrite_keeps (s : State) (cells : List Host.Cell) (rests : Resting s) : Keeps s (takePlainWrite s cells) :=
  claim_keeps _ rests (by simp) (by simp)

theorem takeCanvasClass_keeps (s : State) (cells : List Host.Cell) (a : Nat) (rests : Resting s) : Keeps s (takeCanvasClass s cells a) := by
  unfold takeCanvasClass
  dsimp only
  split
  · exact takePlainWrite_keeps s cells rests
  · exact takeCanvasWrite_keeps s _ _ rests

theorem takeRemaining_keeps (s : State) (cells : List Host.Cell) (rests : Resting s) : Keeps s (takeRemaining s cells) := by
  unfold takeRemaining
  obtain ⟨classOf, h⟩ : ∃ f, f = s.classOf := ⟨_, rfl⟩
  rw [← h]
  split
  · exact finish_keeps _ rests
  · split
    · exact takeControlWrite_keeps s _ _ rests
    · exact takeCanvasClass_keeps s _ _ rests
    · exact takePlainWrite_keeps s _ rests
    · exact finish_keeps _ rests

theorem takeWrite_keeps (s : State) (r : Request) (rests : Resting s) : Keeps s (takeWrite s r) := by
  unfold takeWrite
  split
  · exact finish_keeps _ rests
  · have noted := noteDiscards_keeps s r (reqCells r)
    exact noted.toKeeps.trans (takeRemaining_keeps _ _ (noted.resting rests))

theorem takeRequest_keeps (s : State) (r : Request) (rests : Resting s) : Keeps s (takeRequest s r) := by
  unfold takeRequest
  split
  · exact refuseRequest_keeps s r _ rests
  · split
    · exact claim_keeps _ rests (by simp) (by simp)
    · exact takeWrite_keeps s r rests

theorem takeArrived_keeps (rs : List Request) (s : State) (rests : Resting s) : Keeps s (takeArrived rs s) := by
  induction rs generalizing s with
  | nil => exact .refl s
  | cons r rs ih =>
    unfold takeArrived
    dsimp only
    have queued : Keeps s { s with port := { s.port with arrived := rs } } := {}
    have taken := queued.trans (takeRequest_keeps { s with port := { s.port with arrived := rs } } r rests)
    generalize takeRequest { s with port := { s.port with arrived := rs } } r = s1 at taken ⊢
    split
    · next idle => exact taken.trans (ih s1 (.inl idle))
    · exact taken

theorem settlePort_keeps (s : State) : Keeps s (settlePort s) := by
  unfold settlePort
  split
  · next idle => exact takeArrived_keeps _ s (.inl idle)
  · exact .refl s

theorem arrive_keeps (s : State) (t : Nat) (r : Request) : Keeps s (arrive s t r) := by
  unfold arrive
  dsimp only
  have queued : Keeps (atTime s t) { atTime s t with port := { (atTime s t).port with arrived := (atTime s t).port.arrived ++ [r] } } := {}
  exact ((atTime_keeps s t).toKeeps.trans queued).trans (settlePort_keeps _)

theorem execDiscardFlagClear_keeps {s t : State} (h : execDiscardFlagClear s = .next t) : Keeps s t := by
  unfold execDiscardFlagClear at h
  split at h <;> cases h
  · exact .refl s
  · exact KeepsPort.toKeeps (.of_quietly rfl)

end Sys2Proof.Machine
end

section
/-! The memory channel keeps the laws: grants, and the data that comes back (R49 to R53). -/

namespace Sys2Proof.Machine

/-! ### What an access leaves in memory -/

/-- Memory after an access is granted: a write is in memory at once (R49). -/
def Access.memory (m : Memory) : Access → Memory
  | .write cells => m.writeAll cells
  | _ => m

/-- A write placed on the channel: no data is on it for the port. -/
theorem placeWrite_keeps (s : State) (cells : List Host.Cell) :
    KeepsPort { s with mem := Memory.writeAll s.mem cells } (placeWrite s cells) :=
  { arbiter := ArbiterLaw.of_counts rfl (.inr ⟨by simp [placeWrite], by simp [placeWrite]⟩) fun _ => .inr ⟨rfl, fun h => h⟩ }

/-- A read of another claimant placed on the channel. -/
theorem placeRead_keeps (s : State) (a : Access) (ch : List Byte → Channel) (read : ∀ cells, a ≠ .write cells)
    (own : ∀ data data', ch data ≠ .spRead data' ∧ ch data ≠ .preRead data') : KeepsPort s (place s a ch) := by
  cases a with
  | nothing => exact .refl s
  | read addrs =>
    exact { arbiter := ArbiterLaw.of_counts rfl (.inr ⟨fun _ => (own _ _).1, fun _ => (own _ _).2⟩) fun _ => .inr ⟨rfl, fun h => h⟩ }
  | write cells => exact absurd rfl (read cells)

/-! ### The pass-over counts (R52) -/

theorem get_passOver (s : State) (who c : Claimant) : (passOver s who).passed.get c = passCount s who c := by cases c <;> rfl

theorem waiting_passOver (s : State) (who c : Claimant) : waiting (passOver s who) c = waiting s c := by cases c <;> rfl

theorem passOver_keeps (s : State) (who : Claimant) : KeepsPort s (passOver s who) where
  arbiter law := by
    obtain ⟨idle, stalled, spRead, preRead, counts⟩ := law
    refine ⟨idle, stalled, spRead, preRead, fun c => ?_⟩
    rw [get_passOver, waiting_passOver]
    obtain ⟨most, rests⟩ := counts c
    unfold passCount
    split
    · exact ⟨by omega, fun _ => rfl⟩
    · split
      · next waits => exact ⟨min_le_left _ _, fun h => absurd (waits.symm.trans h) (by decide)⟩
      · exact ⟨most, rests⟩

/-! ### The System Port's claim (R34, R35, R41, R45, R191) -/

/-- With a write on the channel, or nothing for the port, the port moves on. -/
theorem portMoves_keeps {s : State} (p : Port) (count : s.passed.sp = 0 ∨ p.claim = true)
    (channel : ∀ data, s.channel ≠ .spRead data ∧ s.channel ≠ .preRead data) (idle : p.phase = .idle → p.claim = false)
    (stalled : ∀ seg lanes, p.phase = .sealStall seg lanes → p.claim = false) : Keeps s { s with port := p } :=
  { arbiter := ArbiterLaw.of_port p count (fun d => (channel d).1) (fun d => (channel d).2) idle stalled }

theorem spGranted_keeps {s : State} (zero : s.passed.sp = 0) : Keeps s (spGranted s) where
  arbiter law := by
    obtain ⟨-, -, spRead, preRead, counts⟩ := law
    refine ⟨fun _ => rfl, fun _ _ _ => rfl, fun d h => ⟨rfl, (spRead d h).2⟩, fun d h => ⟨rfl, (preRead d h).2⟩, fun c => ?_⟩
    cases c with
    | sp => exact ⟨by show s.passed.sp ≤ 16; omega, fun _ => zero⟩
    | scanOut | copy | report => exact counts _

/-- A read of the port goes onto the channel, and the port waits for its data without a claim. -/
theorem spRead_keeps {s : State} (ch : Channel) (zero : s.passed.sp = 0)
    (spRead : ∀ data, ch = .spRead data → ∃ picks got, s.port.phase = .readAccess picks got)
    (preRead : ∀ data, ch = .preRead data → ∃ bank src seg lanes rewrite, s.port.phase = .preRead bank src seg lanes rewrite) :
    Keeps s (spGranted { s with channel := ch }) where
  arbiter law := by
    obtain ⟨-, -, -, -, counts⟩ := law
    refine ⟨fun _ => rfl, fun _ _ _ => rfl, fun d h => ⟨rfl, spRead d h⟩, fun d h => ⟨rfl, preRead d h⟩, fun c => ?_⟩
    cases c with
    | sp => exact ⟨by show s.passed.sp ≤ 16; omega, fun _ => zero⟩
    | scanOut | copy | report => exact counts _

/-! What a granted claim of the port does in each of its states. -/

theorem grantSp_startup {s : State} {k : Nat} {levels : BitVec 8} (h : s.port.phase = .startup k levels) :
    grantSp s = if k + 1 < Config.sweepAccesses then spNext (placeWrite s (sweepCells s.straps levels k)) (.startup (k + 1) levels)
      else settlePort { placeWrite s (sweepCells s.straps levels k) with port := { s.port with phase := .idle, claim := false } } := by
  simp only [grantSp, spAccess, h, place, spFollow, placeWrite]

theorem grantSp_read {s : State} {picks : List Pick} {got : Option (List Byte)} (h : s.port.phase = .readAccess picks got) :
    grantSp s = spGranted { s with channel := .spRead (Memory.readAll s.mem (readAddrs picks got)) } := by
  simp only [grantSp, spAccess, h, place, spFollow, spChannel]

theorem grantSp_preRead {s : State} {bank src : Fin 4} {seg : Nat} {lanes : List Lane} {rewrite : Bool}
    (h : s.port.phase = .preRead bank src seg lanes rewrite) :
    grantSp s = spGranted { s with channel := .preRead (Memory.readAll s.mem (blockAddrs (s.cc.segmentAddr src seg))) } := by
  simp only [grantSp, spAccess, h, place, spFollow, spChannel]

theorem grantSp_write {s : State} {cells : List Host.Cell} (h : s.port.phase = .writeAccess cells) :
    grantSp s = settlePort (finishRequest (placeWrite s cells) .done) := by
  simp only [grantSp, spAccess, h, place, spFollow, placeWrite]

theorem grantSp_merged {s : State} {bank : Fin 4} {seg : Nat} {bytes : List Byte} (h : s.port.phase = .mergedWrite bank seg bytes) :
    grantSp s = settlePort (finishRequest (placeWrite s (cellsFrom (s.cc.segmentAddr bank seg) bytes)) .done) := by
  simp only [grantSp, spAccess, h, place, spFollow, placeWrite]

theorem grantSp_refresh {s : State} {cells next : List Host.Cell} {rest : List (List Host.Cell)}
    (h : s.port.phase = .refresh (cells :: next :: rest)) :
    grantSp s = spNext (placeWrite s cells) (.refresh (next :: rest)) := by
  simp only [grantSp, spAccess, h, place, spFollow, placeWrite]

theorem grantSp_lastRefresh {s : State} {cells : List Host.Cell} (h : s.port.phase = .refresh [cells]) :
    grantSp s = settlePort (finishRequest (placeWrite s cells) .done) := by
  simp only [grantSp, spAccess, h, place, spFollow, placeWrite]

/-- A port with no access to make. -/
theorem grantSp_nothing {s : State} (h : s.port.phase = .idle ∨ s.port.phase = .refresh [] ∨ ∃ seg lanes, s.port.phase = .sealStall seg lanes) :
    spAccess s = .nothing ∧ grantSp s = spGranted s := by
  rcases h with h | h | ⟨seg, lanes, h⟩ <;> simp only [grantSp, spAccess, h, place, spFollow, and_self]

theorem grantSp_keeps (s : State) (zero : s.passed.sp = 0) : Keeps { s with mem := (spAccess s).memory s.mem } (grantSp s) := by
  have placed (cells : List Host.Cell) := (placeWrite_keeps s cells).toKeeps
  have next (cells : List Host.Cell) (p : Phase) (busy : p ≠ .idle) (moving : ∀ seg lanes, p ≠ .sealStall seg lanes) :
      Keeps { s with mem := Memory.writeAll s.mem cells } (spNext (placeWrite s cells) p) :=
    (placed cells).trans
      (portMoves_keeps _ (.inl zero) (by simp [placeWrite]) (fun h => absurd h busy) fun seg lanes h => absurd h (moving seg lanes))
  have finished (cells : List Host.Cell) :
      Keeps { s with mem := Memory.writeAll s.mem cells } (settlePort (finishRequest (placeWrite s cells) .done)) :=
    ((placed cells).trans (portMoves_keeps (s := placeWrite s cells) ⟨.idle, false, s.port.arrived, s.port.responses ++ [.done]⟩ (.inl zero)
      (by simp [placeWrite]) (fun _ => rfl) (by simp))).trans (settlePort_keeps _)
  have swept (cells : List Host.Cell) :
      Keeps { s with mem := Memory.writeAll s.mem cells }
        (settlePort { placeWrite s cells with port := { s.port with phase := .idle, claim := false } }) :=
    ((placed cells).trans (portMoves_keeps (s := placeWrite s cells) { s.port with phase := .idle, claim := false } (.inl zero)
      (by simp [placeWrite]) (fun _ => rfl) (by simp))).trans (settlePort_keeps _)
  have nothing (h : s.port.phase = .idle ∨ s.port.phase = .refresh [] ∨ ∃ seg lanes, s.port.phase = .sealStall seg lanes) :
      Keeps { s with mem := (spAccess s).memory s.mem } (grantSp s) := by
    rw [(grantSp_nothing h).1, (grantSp_nothing h).2]
    exact spGranted_keeps zero
  cases phase : s.port.phase with
  | startup k levels =>
    rw [grantSp_startup phase, show spAccess s = .write (sweepCells s.straps levels k) by simp only [spAccess, phase]]
    split
    · exact next _ _ (by simp) (by simp)
    · exact swept _
  | readAccess picks got =>
    rw [grantSp_read phase, spAccess, phase]
    exact spRead_keeps (s := s) _ zero (fun _ _ => ⟨picks, got, phase⟩) (by simp)
  | preRead bank src seg lanes rewrite =>
    rw [grantSp_preRead phase, spAccess, phase]
    exact spRead_keeps (s := s) _ zero (by simp) fun _ _ => ⟨bank, src, seg, lanes, rewrite, phase⟩
  | writeAccess cells =>
    rw [grantSp_write phase, spAccess, phase]
    exact finished cells
  | mergedWrite bank seg bytes =>
    rw [grantSp_merged phase, spAccess, phase]
    exact finished _
  | refresh writes =>
    match writes, phase with
    | [], phase => exact nothing (.inr (.inl phase))
    | [cells], phase =>
      rw [grantSp_lastRefresh phase, spAccess, phase]
      exact finished cells
    | cells :: c :: rest, phase =>
      rw [grantSp_refresh phase, spAccess, phase]
      exact next _ _ (by simp) (by simp)
  | idle => exact nothing (.inl phase)
  | sealStall seg lanes => exact nothing (.inr (.inr ⟨seg, lanes, phase⟩))

/-! ### The Scan-Out claim (R105, R106) -/

theorem scanOutAccess_read (s : State) (cells : List Host.Cell) : scanOutAccess s ≠ .write cells := by
  unfold scanOutAccess
  split
  · split <;> simp
  · simp

theorem Access.memory_of_read {a : Access} (m : Memory) (h : ∀ cells, a ≠ .write cells) : a.memory m = m := by
  cases a with
  | nothing | read addrs => rfl
  | write cells => exact absurd rfl (h cells)

/-- The Scan-Out claim set anew after a grant to it. -/
theorem soClaim_keeps (s : State) (served : Fin 24) (claim : Bool) (zero : s.passed.scanOut = 0) :
    KeepsPort s { s with so := { s.so with served := served, claim := claim } } := by
  refine .of_send rfl (fun h => h) (fun h => h) (ArbiterLaw.of_counts rfl (.inl rfl) fun c => ?_)
  cases c with
  | scanOut => exact .inl zero
  | sp | copy | report => exact .inr ⟨rfl, fun h => h⟩

theorem grantScanOut_keeps (s : State) (zero : s.passed.scanOut = 0) :
    KeepsPort { s with mem := (scanOutAccess s).memory s.mem } (grantScanOut s) := by
  rw [Access.memory_of_read _ (scanOutAccess_read s)]
  unfold grantScanOut
  split
  · exact soClaim_keeps s s.so.served false zero
  · next l _ =>
    have placed := placeRead_keeps s (scanOutAccess s) (fun data => .segmentRead l data false) (scanOutAccess_read s) (by simp)
    have passed : (place s (scanOutAccess s) (fun data => .segmentRead l data false)).passed.scanOut = 0 := by
      cases h : scanOutAccess s <;> exact zero
    refine placed.trans ?_
    generalize place s (scanOutAccess s) (fun data => .segmentRead l data false) = s1 at passed
    unfold scanOutFollow
    split
    · exact .refl s1
    · next p _ =>
      dsimp only
      have fetched := setPart_keeps s1 l { p with fetched := p.fetched + 1 }
      have passed' : (setPart s1 l (some { p with fetched := p.fetched + 1 })).passed.scanOut = 0 := by rw [setPart_spec]; exact passed
      generalize setPart s1 l (some { p with fetched := p.fetched + 1 }) = s2 at fetched passed' ⊢
      exact fetched.trans (soClaim_keeps s2 l _ passed')

/-! ### The Copy claim (R18, R20, R21, R44) -/

theorem markWritten_state (s : State) (k : Fin 4) (seg : Nat) : ((markWritten s k seg).banks[k]).state = (s.banks[k]).state := by
  rcases markWritten_spec s k seg with ⟨-, h⟩ | ⟨-, h⟩ <;> rw [h]
  rw [setBank_same]

theorem copyLands_keeps (s : State) (k : Fin 4) (seg : Nat) (buffer : List Byte) (fills : (s.banks[k]).state.fills = true) :
    KeepsPort s (copyLands s k seg buffer) ∧ ((copyLands s k seg buffer).banks[k]).state.fills = true := by
  have marked := markWritten_keeps s k seg fills
  have state := markWritten_state s k seg
  unfold copyLands
  dsimp only
  generalize markWritten s k seg = s1 at marked state ⊢
  refine ⟨marked.trans (addSegment_keeps s1 _ k seg buffer), ?_⟩
  rw [setBank_same, (addSegment_rest ..).1, state]
  exact fills

theorem bankTarget_fills {s : State} {k : Fin 4} (h : bankTarget s = some k) : (s.banks[k]).state.fills = true := by
  unfold bankTarget at h
  split at h
  · next h' => cases h; rw [bankIn_some h']; rfl
  · rw [bankIn_some h]; rfl

/-- The copy engine takes up another state after a grant to it. -/
theorem copyState_keeps (s : State) (c : CopyEngine) (zero : s.passed.copy = 0) : KeepsPort s { s with copy := c } :=
  .of_banks rfl (fun h => h) (fun _ h => h) (ArbiterLaw.of_counts rfl (.inl rfl) fun c => by
    cases c with
    | copy => exact .inl zero
    | sp | scanOut | report => exact .inr ⟨rfl, fun h => h⟩)

theorem grantCopy_keeps (s : State) (zero : s.passed.copy = 0) : Keeps { s with mem := (copyAccess s).memory s.mem } (grantCopy s) := by
  unfold grantCopy
  split
  · next k copy target =>
    have read (cells : List Host.Cell) : copyAccess s ≠ .write cells := by
      simp only [copyAccess, copy, target]
      split <;> simp
    rw [Access.memory_of_read _ read]
    have placed := placeRead_keeps s (copyAccess s) (fun data => .copyRead data false) read (by simp)
    have passed : (place s (copyAccess s) (fun data => .copyRead data false)).passed.copy = 0 := by
      cases h : copyAccess s <;> exact zero
    exact (placed.trans (copyState_keeps _ _ passed)).toKeeps
  · next buffer k copy target =>
    dsimp only
    have fills := bankTarget_fills target
    refine Keeps.trans ?_ (retakeStalled_keeps _)
    by_cases marked : isMarked s k (s.banks[k]).progress = true
    · have access : copyAccess s = .nothing := by simp only [copyAccess, copy, target, marked, if_true]
      rw [if_pos marked, access]
      exact (copyStepEnd_keeps s k fills).toKeeps
    · have access : copyAccess s = .write (cellsFrom (s.cc.segmentAddr k (s.banks[k]).progress) buffer) := by
        simp only [copyAccess, copy, target, marked, if_false, Bool.false_eq_true]
      rw [if_neg marked, access]
      obtain ⟨lands, still⟩ := copyLands_keeps (placeWrite s (cellsFrom (s.cc.segmentAddr k (s.banks[k]).progress) buffer)) k
        (s.banks[k]).progress buffer fills
      exact (((placeWrite_keeps s _).trans lands).trans (copyStepEnd_keeps _ k still)).toKeeps
  · next target => 
    rw [show copyAccess s = .nothing by simp only [copyAccess, target]]
    exact (copyIdle_keeps s).toKeeps
  · next target =>
    rw [show copyAccess s = .nothing by simp only [copyAccess, target]]
    exact (copyIdle_keeps s).toKeeps
  · next copy =>
    rw [show copyAccess s = .nothing by simp only [copyAccess, copy]; split <;> rfl]
    exact .refl s
  · next copy =>
    rw [show copyAccess s = .nothing by simp only [copyAccess, copy]; split <;> rfl]
    exact .refl s

/-! ### The Report claim (R194, R197) -/

/-- The effect of a Report claim granted on the indices and records (R194). -/
theorem reportFollow_ringIndexLaw (s : State) (c : RwClaim) (claim : s.rw.claim = some c) (law : RingLaw s) :
    RingIndexLaw { reportFollow s c with rw := { (reportFollow s c).rw with claim := none } } := by
  obtain ⟨⟨off, on, short⟩, index, record⟩ := (ringLaw_iff s).mp law
  cases c with
  | part i => exact ⟨off, on, short⟩
  | index =>
    obtain ⟨v, owed⟩ : ∃ v, s.rw.owed = some v := Option.isSome_iff_exists.mp (index.mp claim)
    refine ⟨fun none => ?_, fun pos => ?_, short⟩
    · exact absurd (off none).2.2.2.2 (by simp [owed])
    · obtain ⟨indices, slots, follows⟩ := on pos
      have shown := follows v owed
      simp only [unshown, owed, Option.isSome_some, bit, if_true] at indices slots
      rw [Nat.add_comm] at indices
      simp only [reportFollow, unshown, owed, Option.getD_some, Option.isSome_none, bit, shown]
      refine ⟨?_, fun i h => ?_, by simp⟩
      · simpa using indices.advance
      · rw [slots i h]
        simp
  | record =>
    have none : s.rw.owed = none := by
      cases owed : s.rw.owed with
      | none => rfl
      | some v => exact absurd (claim.symm.trans (index.mpr (by simp [owed]))) (by simp)
    obtain ⟨r, rest, queue⟩ : ∃ r rest, s.rw.queue = r :: rest := List.exists_cons_of_ne_nil (record claim)
    have follow : reportFollow s .record
        = { s with rw := { s.rw with queue := rest, owed := some ((r.slot + 1) % s.cc.ringSize) } } := by
      simp only [reportFollow, queue]
    rw [follow]
    refine ⟨fun zero => absurd (off zero).2.2.2.1 (by simp [queue]), fun pos => ?_, ?_⟩
    · obtain ⟨indices, slots, -⟩ := on pos
      simp only [unshown, none, queue, Option.isSome_none, bit, Bool.false_eq_true, if_false, List.length_cons, Nat.zero_add] at indices
      have first := slots 0 (by simp [queue])
      simp only [queue, none, List.getElem_cons_zero, Option.isSome_none, bit, Bool.false_eq_true, if_false, Nat.add_zero] at first
      simp only [unshown, Option.isSome_some, bit, if_true]
      refine ⟨by rw [Nat.add_comm 1]; exact indices, fun i h => ?_, fun v hv => ?_⟩
      · have slot := slots (i + 1) (by rw [queue]; exact Nat.succ_lt_succ h)
        simp only [queue, none, List.getElem_cons_succ, Option.isSome_none, bit, Bool.false_eq_true, if_false, Nat.add_zero] at slot
        rw [slot, Nat.add_assoc, Nat.add_comm 1 i]
      · rw [← Option.some.inj hv, first, Nat.mod_add_mod]
    · rw [queue, List.length_cons] at short
      exact Nat.le_of_succ_le short

theorem reportTaken_keeps (s : State) (c : RwClaim) (claim : s.rw.claim = some c) (zero : s.passed.report = 0) :
    KeepsPort s (rwRaise { reportFollow s c with rw := { (reportFollow s c).rw with claim := none } }) := by
  have index := reportFollow_ringIndexLaw s c claim
  have only : reportFollow s c = { s with rw := (reportFollow s c).rw } := by
    cases c with
    | index | part i => rfl
    | record => unfold reportFollow; dsimp only; split <;> rfl
  generalize reportFollow s c = u at index only ⊢
  obtain ⟨v, rfl⟩ : ∃ v, u = { s with rw := v } := ⟨_, only⟩
  have ring := fun law => rwRaise_ringLaw (index law) (.inl rfl)
  rw [rwRaise_spec] at ring ⊢
  refine { ring, arbiter := ArbiterLaw.of_counts rfl (.inl rfl) fun c => ?_ }
  cases c with
  | report => exact .inl zero
  | sp | scanOut | copy => exact .inr ⟨rfl, fun h => h⟩

theorem grantReport_keeps (s : State) (zero : s.passed.report = 0) :
    KeepsPort { s with mem := (reportAccess s).memory s.mem } (grantReport s) := by
  unfold grantReport
  cases claim : s.rw.claim with
  | none =>
    rw [show reportAccess s = .nothing by simp only [reportAccess, claim]]
    exact .refl s
  | some c =>
    dsimp only
    have placed : KeepsPort { s with mem := (reportAccess s).memory s.mem } (place s (reportAccess s) fun data => .spRead data) := by
      cases access : reportAccess s with
      | nothing => exact .refl s
      | write cells => exact placeWrite_keeps s cells
      | read addrs =>
        unfold reportAccess at access
        split at access <;> try split at access
        all_goals exact absurd access (by simp)
    have rw : (place s (reportAccess s) fun data => .spRead data).rw = s.rw := by cases reportAccess s <;> rfl
    have passed : (place s (reportAccess s) fun data => .spRead data).passed = s.passed := by cases reportAccess s <;> rfl
    generalize place s (reportAccess s) (fun data => .spRead data) = s1 at placed rw passed ⊢
    exact placed.trans (reportTaken_keeps s1 c (by rw [rw]; exact claim) (by rw [passed]; exact zero))

end Sys2Proof.Machine
end

section
/-! Data that comes back, the commands, power-on reset and the step keep the laws. -/

namespace Sys2Proof.Machine

/-! ### Completions (R33, R35, R45, R49) -/

theorem freeChannel_keeps (s : State) : KeepsPort s (freeChannel s) :=
  { arbiter := ArbiterLaw.of_counts rfl (.inr ⟨by simp [freeChannel], by simp [freeChannel]⟩) fun _ => .inr ⟨rfl, fun h => h⟩ }

theorem execMemoryWriteComplete_keeps {s t : State} (h : execMemoryWriteComplete s = .next t) : Keeps s t := by
  unfold execMemoryWriteComplete at h
  split at h <;> cases h
  · exact (freeChannel_keeps s).toKeeps
  · exact .refl s

/-- The port, whose data the channel carried, raised no claim and has a count of 0 (R52). -/
theorem dataReturned_keeps {s : State} {data : List Byte} (p : Port) (carried : s.channel = .spRead data)
    (idle : p.phase = .idle → p.claim = false) (stalled : ∀ seg lanes, p.phase = .sealStall seg lanes → p.claim = false) :
    Keeps s { freeChannel s with port := p } where
  arbiter law := by
    have zero : s.passed.sp = 0 := (law.2.2.2.2 .sp).2 (law.2.2.1 data carried).1
    exact ArbiterLaw.of_port (s := freeChannel s) p (.inl zero) (by simp [freeChannel]) (by simp [freeChannel]) idle stalled
      ((freeChannel_keeps s).arbiter law)

theorem readReturned_keeps {s : State} {data : List Byte} (picks : List Pick) (got : Option (List Byte)) (carried : s.channel = .spRead data) :
    Keeps s (readReturned (freeChannel s) picks got data) := by
  unfold readReturned
  split
  · exact dataReturned_keeps _ carried (by simp) (by simp)
  · exact (dataReturned_keeps (s := s) ⟨.idle, false, s.port.arrived, s.port.responses ++ [_]⟩ carried (by simp) (by simp)).trans
      (settlePort_keeps _)

theorem execReadDataReturn_keeps {s t : State} (tick : Nat) (h : execReadDataReturn tick s = .next t) : Keeps s t := by
  unfold execReadDataReturn at h
  dsimp only at h
  refine (atTime_keeps s tick).toKeeps.trans ?_
  generalize atTime s tick = u at h ⊢
  split at h <;> cases h
  · next carried _ => exact readReturned_keeps _ _ carried
  · exact (freeChannel_keeps _).toKeeps
  · exact .refl _

theorem swapSegment_rest (columns : Nat) (b : Bank) (seg : Nat) (old new : List Byte) :
    (swapSegment columns b seg old new).state = b.state ∧ (swapSegment columns b seg old new).src = b.src
      ∧ (swapSegment columns b seg old new).written = b.written := by
  simp only [swapSegment, and_self]

theorem preReadReturned_keeps (s : State) (bank : Fin 4) (seg : Nat) (lanes : List Lane) (rewrite : Bool) (old : List Byte)
    (channel : s.channel = .free) : Keeps s (preReadReturned s bank seg lanes rewrite old) := by
  have swapped : KeepsPort s (setBank s bank
      (if rewrite then swapSegment s.cc.columns s.banks[bank] seg old (mergeBytes old lanes)
        else addSegment s.cc.columns s.banks[bank] seg (mergeBytes old lanes))) := by
    split
    · obtain ⟨state, src, written⟩ := swapSegment_rest s.cc.columns s.banks[bank] seg old (mergeBytes old lanes)
      exact setBank_keeps s bank _ state src written
    · exact addSegment_keeps ..
  unfold preReadReturned
  dsimp only
  generalize (if rewrite then swapSegment s.cc.columns s.banks[bank] seg old (mergeBytes old lanes)
        else addSegment s.cc.columns s.banks[bank] seg (mergeBytes old lanes)) = b at swapped ⊢
  refine swapped.toKeeps.trans (portMoves_keeps _ (.inr rfl) (fun data => ?_) (by simp) (by simp))
  show s.channel ≠ _ ∧ s.channel ≠ _
  simp [channel]

theorem execPreReadDataReturn_keeps {s t : State} (h : execPreReadDataReturn s = .next t) : Keeps s t := by
  unfold execPreReadDataReturn at h
  split at h <;> cases h
  · exact (freeChannel_keeps s).toKeeps.trans (preReadReturned_keeps (freeChannel s) _ _ _ _ _ rfl)
  · exact (freeChannel_keeps s).toKeeps
  · exact .refl s

theorem execCopyReadDataReturn_keeps {s t : State} (h : execCopyReadDataReturn s = .next t) : Keeps s t := by
  unfold execCopyReadDataReturn at h
  split at h
  · split at h
    · cases h; exact (freeChannel_keeps s).toKeeps
    · split at h <;> cases h
      · next data _ _ _ _ _ =>
        have claimed : KeepsPort (freeChannel s) { freeChannel s with copy := .wantWrite data } := by
          refine .of_banks rfl (fun h => h) (fun _ h => h) (ArbiterLaw.of_counts rfl (.inl rfl) fun c => ?_)
          cases c with
          | copy => exact .inr ⟨rfl, fun _ => rfl⟩
          | sp | scanOut | report => exact .inr ⟨rfl, fun h => h⟩
        exact ((freeChannel_keeps s).trans claimed).toKeeps
      · exact (freeChannel_keeps s).toKeeps
  · cases h; exact .refl s

/-! ### The Scan-Out Engine's and the transmitters' commands -/

theorem execSegmentDataReturn_keeps {s t : State} (h : execSegmentDataReturn s = .next t) : Keeps s t := by
  unfold execSegmentDataReturn at h
  split at h <;> cases h
  · split
    · exact (freeChannel_keeps s).toKeeps
    · exact ((freeChannel_keeps s).trans (assembleSegment_keeps (freeChannel s) _ _)).toKeeps
  · exact .refl s

theorem execScanOutFrameEvent_keeps {s t : State} (h : execScanOutFrameEvent s = .next t) : KeepsLaws s t := by
  unfold execScanOutFrameEvent at h
  split at h <;> cases h
  · exact (KeepsPort.refl s).toKeepsLaws
  · exact (KeepsPort.of_quietly rfl).toKeepsLaws.trans (scanOutFrame_keeps _ _)

theorem execLeaveNotice_keeps {s t : State} (h : execLeaveNotice s = .next t) : KeepsPort s t := by
  unfold execLeaveNotice at h
  split at h <;> cases h
  · exact .refl s
  · exact KeepsPort.trans (.of_quietly rfl) (leaveSend_keeps _ _)

theorem execRecoverNotice_keeps {s t : State} (h : execRecoverNotice s = .next t) : KeepsPort s t := by
  unfold execRecoverNotice at h
  split at h <;> cases h
  · exact .refl s
  · exact .of_quietly rfl

theorem execWallGainNotice_keeps {s t : State} (h : execWallGainNotice s = .next t) : KeepsPort s t := by
  unfold execWallGainNotice at h
  split at h
  · cases h; exact .refl s
  · dsimp only at h
    split at h <;> cases h
    · exact .of_quietly rfl
    · exact .of_quietly rfl

theorem execPacketFinish_keeps {s t : State} (l : Fin 24) (h : execPacketFinish l s = .next t) : KeepsPort s t := by
  unfold execPacketFinish at h
  split at h <;> cases h
  · exact .refl s
  · exact ((atTime_keeps ..).trans (finishPacket_keeps ..)).trans (nextPacket_keeps ..)

theorem execReturnPacketArrival_keeps {s t : State} (l : Fin 24) (bytes : List RxByte) (h : execReturnPacketArrival l bytes s = .next t) :
    KeepsPort s t := by
  unfold execReturnPacketArrival at h
  dsimp only at h
  cases h
  split
  · exact .refl s
  · exact (atTime_keeps ..).trans (takePacket_keeps ..)

/-! ### The commands -/

/-- A command other than a grant, power-on reset and the Scan-Out Engine's frame event keeps every law and the latched gain, and
writes nothing to memory or the queue. -/
theorem exec_keeps {c : Instr} {s t : State} (grant : ∀ tick, c ≠ .arbiterGrant tick) (reset : ∀ straps levels, c ≠ .powerOnReset straps levels)
    (frame : c ≠ .scanOutFrameEvent) (h : exec c s = .next t) : Keeps s t := by
  have arrived {tick : Nat} {r : Request} (h : Host.Outcome.next (φ := Fault) (ρ := Refusal) (arrive s tick r) = .next t) : Keeps s t := by
    cases h
    exact arrive_keeps ..
  cases c with
  | powerOnReset straps levels => exact absurd rfl (reset straps levels)
  | arbiterGrant tick => exact absurd rfl (grant tick)
  | canvasWrite | canvasRead | plainRequest | shieldedWrite | settingWordWrite | runEnableSet | runEnableClear
  | copyForwardEnableWrite | attentionEnableWrite | canvasWidthWrite | canvasHeightWrite | canvasWindowBaseWrite
  | bankRegionBaseWrite | ringBaseWrite | ringSizeCodeWrite | orderCodeWrite | commit | wallReset | linkClear
  | referenceAcknowledge | tallyAcknowledge | lookEditSelector | ringConsumerIndex | modeWriteInternal | modeWriteExternal
  | acquireCountWrite | nominalPeriodWrite | toleranceWrite | phaseOffsetWrite | holdoverLimitWrite | tallyEdgeModesWrite
  | tallyRankWrite | cameraToLookWrite | wallGainWordWrite | lightingGainsWordWrite | zoneEntryWrite | fixtureEntryWrite
  | lampLinkEnableSet | lampLinkEnableClear | lampLinkSetupWrite | missLimitWrite | tileLinkEnableSet | tileLinkEnableClear
  | tileHeaderWrite | tileRecordWrite => exact arrived h
  | memoryWriteComplete => exact execMemoryWriteComplete_keeps h
  | readDataReturn tick => exact execReadDataReturn_keeps tick h
  | preReadDataReturn => exact execPreReadDataReturn_keeps h
  | segmentDataReturn => exact execSegmentDataReturn_keeps h
  | copyReadDataReturn => exact execCopyReadDataReturn_keeps h
  | frameEvent => exact (execFrameEvent_keeps h).toKeeps
  | referencePulse tick => exact (execReferencePulse_keeps tick h).toKeeps
  | pulseMissing => exact (execPulseMissing_keeps h).toKeeps
  | scanOutFrameEvent => exact absurd rfl frame
  | leaveNotice => exact (execLeaveNotice_keeps h).toKeeps
  | recoverNotice => exact (execRecoverNotice_keeps h).toKeeps
  | wallGainNotice => exact (execWallGainNotice_keeps h).toKeeps
  | packetFinish l => exact (execPacketFinish_keeps l h).toKeeps
  | returnPacketArrival l bytes => exact (execReturnPacketArrival_keeps l bytes h).toKeeps
  | linkCheck => exact (execLinkCheck_keeps h).toKeeps
  | markNotice => exact (execMarkNotice_keeps h).toKeeps
  | tallyEdge i high => exact (execTallyEdge_keeps i high h).toKeeps
  | tallySample => exact (execTallySample_keeps h).toKeeps
  | showNotice => exact (execShowNotice_keeps h).toKeeps
  | lookNotice => cases h; exact (takeGains_keeps .look s).toKeeps
  | lightingGainsNotice => cases h; exact (takeGains_keeps .lights s).toKeeps
  | entryNotice => exact (execEntryNotice_keeps h).toKeeps
  | fadeStep => exact (execFadeStep_keeps h).toKeeps
  | lampUnitFinish l => exact (execLampUnitFinish_keeps l h).toKeeps
  | statusBlockRewrite => exact (execStatusBlockRewrite_keeps s t h).toKeeps
  | discardFlagClear => exact execDiscardFlagClear_keeps h
  | reportTaken m => exact (execReportTaken_keeps m s t h).toKeeps

/-- A command other than a grant and power-on reset keeps every law, and writes nothing to memory or the queue. -/
theorem exec_keepsLaws {c : Instr} {s t : State} (grant : ∀ tick, c ≠ .arbiterGrant tick)
    (reset : ∀ straps levels, c ≠ .powerOnReset straps levels) (h : exec c s = .next t) : KeepsLaws s t := by
  by_cases frame : c = .scanOutFrameEvent
  · rw [frame] at h
    exact execScanOutFrameEvent_keeps h
  · exact (exec_keeps grant reset frame h).toKeepsLaws

theorem accessOf_passOver (s : State) (who c : Claimant) : accessOf (passOver s who) c = accessOf s c := by cases c <;> rfl

/-- A grant keeps every law, and changes memory by the write that it grants (R49, R50). -/
theorem grant_keeps (s : State) (c : Claimant) : Keeps { s with mem := (accessOf s c).memory s.mem } (grant (passOver s c) c) := by
  have counted : Keeps { s with mem := (accessOf s c).memory s.mem } { passOver s c with mem := (accessOf s c).memory s.mem } :=
    (passOver_keeps { s with mem := (accessOf s c).memory s.mem } c).toKeeps
  have zero : (passOver s c).passed.get c = 0 := by rw [get_passOver, passCount, if_pos rfl]
  refine counted.trans ?_
  rw [← accessOf_passOver s c c, show s.mem = (passOver s c).mem from rfl]
  generalize passOver s c = u at zero
  cases c with
  | sp => exact grantSp_keeps u zero
  | scanOut => exact (grantScanOut_keeps u zero).toKeeps
  | copy => exact grantCopy_keeps u zero
  | report => exact (grantReport_keeps u zero).toKeeps

/-- The arbiter grants nothing, or the claim it chooses. -/
theorem execArbiterGrant_cases {tick : Nat} {s t : State} (h : exec (.arbiterGrant tick) s = .next t) :
    t = atTime s tick
      ∨ ∃ c, arbiterChoice (atTime s tick) = some c ∧ t = grant (passOver (atTime s tick) c) c := by
  change execArbiterGrant tick s = .next t at h
  unfold execArbiterGrant at h
  dsimp only at h
  split at h
  · split at h
    · cases h; exact .inl rfl
    · next c choice =>
      split at h <;> cases h
      exact .inr ⟨c, choice, rfl⟩
  · cases h; exact .inl rfl

end Sys2Proof.Machine
end

section
/-! What every step keeps: the statements O1 to O12. -/

namespace Sys2Proof.Machine

/-! ### Power-on reset meets the laws -/

theorem getElem_replicate_fin {α : Type} {n : Nat} (x : α) (i : Fin n) : (Vector.replicate n x)[i] = x :=
  Vector.getElem_replicate ..

theorem powerOn_settingsLaw : SettingsLaw Shadow.powerOn := by
  unfold SettingsLaw
  decide

theorem powerOn_tablesLaw : TablesLaw Shadow.powerOn := by
  have zones (z : Fin 64) : Shadow.powerOn.zones[z] = #v[0x00001000, 0, 0, 0] := getElem_replicate_fin ..
  have fixtures (f : Fin 128) : Shadow.powerOn.fixtures[f] = #v[0, 0x0FFF0000, 0, 0] := getElem_replicate_fin ..
  have tiles (l : Fin 24) : Shadow.powerOn.tiles[l] = ((Vector.replicate 32 0).set 0 0x00041008 |>.set 1 0x000F0F0F) :=
    getElem_replicate_fin ..
  refine ⟨by decide, fun z => ?_, fun f => ?_, fun l => ?_, fun l r => ?_⟩
  · rw [zones z]; decide
  · rw [fixtures f]; decide
  · rw [tiles l]; decide
  · rw [tiles l]; revert r; decide

section
variable (straps : BitVec 2) (levels : BitVec 8) (mem : List Host.Cell) (arrived : List Request) (responses : List Response) (draws : Nat)
  (pending : List Instr)

theorem powerOn_bank (k : Fin 4) : (State.powerOn straps levels mem arrived responses draws pending).banks[k] = Bank.powerOn :=
  getElem_replicate_fin ..

theorem powerOn_bankLaw : BankLaw (State.powerOn straps levels mem arrived responses draws pending) := by
  unfold BankLaw AtMostOne
  simp only [powerOn_bank]
  exact ⟨fun _ _ h => absurd h (by decide), fun _ _ h => absurd h (by decide), fun _ _ h => absurd h (by decide),
    fun _ _ h => absurd h (by decide), fun _ h => absurd h (by decide), fun _ _ => by decide⟩

theorem powerOn_mapLaw : MapLaw (State.powerOn straps levels mem arrived responses draws pending) := by
  refine ⟨powerOn_bankLaw .., fun k => ?_, fun k h => ?_, fun k h => ?_⟩
  · rw [powerOn_bank]
    exact ⟨fun h => by rcases h with h | h <;> exact absurd h (by simp [State.powerOn]), fun h => absurd h (by decide)⟩
  · exact absurd h.1 (by simp [State.powerOn])
  · rw [powerOn_bank] at h
    exact absurd h (by decide)

theorem powerOn_ringLaw : RingLaw (State.powerOn straps levels mem arrived responses draws pending) :=
  ⟨fun _ => ⟨rfl, rfl, rfl, rfl, rfl⟩, fun h => absurd h (show ¬ 0 < Shadow.powerOn.ringSize by decide), Nat.zero_le _,
    by simp [State.powerOn, ReportWriter.powerOn], by simp [State.powerOn, ReportWriter.powerOn]⟩

theorem powerOn_placementLaw : PlacementLaw (State.powerOn straps levels mem arrived responses draws pending) := by
  show placementBad straps Shadow.powerOn = false
  revert straps
  decide

theorem powerOn_referenceLaw : ReferenceLaw (State.powerOn straps levels mem arrived responses draws pending) := by
  refine ⟨.nil, Nat.zero_le _, fun _ => rfl, ?_, ?_, ?_, fun _ => rfl, Nat.zero_le _, show Shadow.powerOn.acquireCount ≤ 15 by decide⟩
  · simp [State.powerOn, RefUnit.powerOn]
  · simp [State.powerOn, RefUnit.powerOn]
  · simp only [State.powerOn, RefUnit.powerOn]
    decide

theorem powerOn_supervisionLaw : SupervisionLaw (State.powerOn straps levels mem arrived responses draws pending) := by
  refine ⟨show 4 ≤ 15 by decide, fun l => ?_⟩
  have links : (State.powerOn straps levels mem arrived responses draws pending).lsv.links[l] = ⟨.off, none, 0, false, false, false, false⟩ :=
    getElem_replicate_fin ..
  have joined : (State.powerOn straps levels mem arrived responses draws pending).lsv.joined[l] = none := getElem_replicate_fin ..
  have rates : (State.powerOn straps levels mem arrived responses draws pending).lsv.rates[l] = [] := getElem_replicate_fin ..
  have tile : (State.powerOn straps levels mem arrived responses draws pending).cc.tiles[l]
      = ((Vector.replicate 32 0).set 0 0x00041008 |>.set 1 0x000F0F0F) := getElem_replicate_fin ..
  unfold Shadow.linkEnable rateAt
  rw [links, joined, rates, tile]
  exact ⟨by decide, fun _ => rfl, by decide, by decide, fun _ _ => by rw [List.find?_nil]; decide, fun _ h => absurd h (by simp)⟩

theorem powerOn_starveLaw : StarveLaw (State.powerOn straps levels mem arrived responses draws pending) := by
  intro l h
  have links : (State.powerOn straps levels mem arrived responses draws pending).so.links[l] = ⟨false, false, 0, 0⟩ := getElem_replicate_fin ..
  rw [links] at h
  exact absurd h (by decide)

theorem powerOn_fadeLaw : FadeLaw (State.powerOn straps levels mem arrived responses draws pending) := by
  intro i
  have fixtures : (State.powerOn straps levels mem arrived responses draws pending).le.fixtures[i] = ⟨RGB.zero, RGB.zero, RGB.zero, 0, false⟩ :=
    getElem_replicate_fin ..
  rw [fixtures]
  unfold ComponentLaw
  decide

theorem powerOn_arbiterLaw : ArbiterLaw (State.powerOn straps levels mem arrived responses draws pending) := by
  refine ⟨by simp [State.powerOn], by simp [State.powerOn], by simp [State.powerOn], by simp [State.powerOn], fun c => ?_⟩
  have zero : (State.powerOn straps levels mem arrived responses draws pending).passed.get c = 0 := by cases c <;> rfl
  exact ⟨by omega, fun _ => zero⟩

end

/-! ### The step -/

/-- A grant, power-on reset, or a command that keeps every law and writes nothing to memory or the queue. -/
theorem exec_cases {c : Instr} {s t : State} (h : exec c s = .next t) :
    (∃ tick, c = .arbiterGrant tick) ∨ (∃ straps levels, c = .powerOnReset straps levels) ∨ KeepsLaws s t := by
  by_cases grant : ∃ tick, c = .arbiterGrant tick
  · exact .inl grant
  · by_cases reset : ∃ straps levels, c = .powerOnReset straps levels
    · exact .inr (.inl reset)
    · push Not at grant reset
      exact .inr (.inr (exec_keepsLaws grant reset h))

/-- What holds at power-on reset, is not about memory and is carried by `KeepsLaws`, holds after every command. -/
theorem exec_law {law : State → Prop} {c : Instr} {s t : State} (h : exec c s = .next t) (keeps : ∀ u v, KeepsLaws u v → law u → law v)
    (mem : ∀ m, law s → law { s with mem := m })
    (reset : ∀ straps levels, law
      (State.powerOn straps levels (memoryAtReset s) s.port.arrived s.port.responses (drawsAtReset s) s.pending))
    (hs : law s) : law t := by
  rcases exec_cases h with ⟨tick, rfl⟩ | ⟨straps, levels, rfl⟩ | kept
  · rcases execArbiterGrant_cases h with rfl | ⟨who, -, rfl⟩
    · exact keeps _ _ (atTime_keeps s tick).toKeepsLaws hs
    · exact keeps _ _ ((atTime_keeps { s with mem := (accessOf (atTime s tick) who).memory s.mem } tick).toKeepsLaws.trans
        (grant_keeps (atTime s tick) who).toKeepsLaws) (mem _ hs)
  · cases h
    exact reset ..
  · exact keeps _ _ kept hs

theorem step_cases {s t : State} (h : step s = .next t) :
    t = s ∨ ∃ c rest, s.pending = c :: rest ∧ exec c { s with pending := rest } = .next t := by
  unfold step at h
  split at h
  · cases h; exact .inl rfl
  · next c rest pending => exact .inr ⟨c, rest, pending, h⟩

/-- A law that `KeepsLaws` carries, that reads neither memory nor the queue, and that power-on reset brings about is kept by every step. -/
theorem step_law {law : State → Prop} {s t : State} (h : step s = .next t) (keeps : ∀ u v, KeepsLaws u v → law u → law v)
    (mem : ∀ s m, law s → law { s with mem := m }) (pending : ∀ rest, law s → law { s with pending := rest })
    (reset : ∀ straps levels mem arrived responses draws pending, law (State.powerOn straps levels mem arrived responses draws pending))
    (hs : law s) : law t := by
  rcases step_cases h with rfl | ⟨c, rest, -, h⟩
  · exact hs
  · exact exec_law h keeps (mem _) (fun _ _ => reset ..) (pending rest hs)

/-! ### Memory -/

theorem memory_wf {m : Memory} (a : Access) (h : Memory.wf m = true) : Memory.wf (a.memory m) = true := by
  cases a with
  | nothing | read addrs => exact h
  | write cells => exact Memory.wf_writeAll cells m h

theorem read_memory {m : Memory} {a : Access} {x : Nat} (h : x ∉ a.addrs) : Memory.read (a.memory m) x = Memory.read m x := by
  cases a with
  | nothing | read addrs => rfl
  | write cells => exact Memory.read_writeAll_outside cells x (fun c hc e => h (List.mem_map.mpr ⟨c, hc, e⟩)) m

/-- The memory that the arbiter leaves (R49). -/
theorem execArbiterGrant_mem {tick : Nat} {who : Claimant} {s t : State} (choice : arbiterChoice (atTime s tick) = some who)
    (h : exec (.arbiterGrant tick) s = .next t) : t.mem = s.mem ∨ t.mem = (accessOf (atTime s tick) who).memory s.mem := by
  rcases execArbiterGrant_cases h with rfl | ⟨c, choice', rfl⟩
  · exact .inl rfl
  · obtain rfl : c = who := Option.some.inj (choice'.symm.trans choice)
    exact .inr (grant_keeps (atTime s tick) c).mem

/-! ### The statements -/

/-- Settles O1: the step is that command's meaning. -/
theorem stepRunsTheFrontCommand : Obligations.StepRunsTheFrontCommand := by
  unfold Obligations.StepRunsTheFrontCommand
  intro c rest s pending
  unfold step
  rw [pending]

/-- Settles O2: a grant leaves the queue to what `Keeps` says, and power-on reset carries it over. -/
theorem commandsLeaveTheQueueAlone : Obligations.CommandsLeaveTheQueueAlone := by
  unfold Obligations.CommandsLeaveTheQueueAlone
  intro c s t h
  exact exec_law (law := fun u => u.pending = s.pending) h (fun u v keeps hu => keeps.pending.trans hu) (fun _ h => h)
    (fun _ _ => rfl) rfl

/-- Settles O3: `Keeps` leaves memory as it is, and a grant changes it by its access alone. -/
theorem onlyGrantedWritesChangeMemory : Obligations.OnlyGrantedWritesChangeMemory := by
  unfold Obligations.OnlyGrantedWritesChangeMemory
  refine ⟨fun c s t grant reset h => (exec_keepsLaws grant reset h).mem, fun tick who s t choice h a outside => ?_,
    fun tick who addrs s t choice access h => ?_⟩
  · rcases execArbiterGrant_mem choice h with mem | mem <;> rw [mem]
    exact read_memory outside
  · rcases execArbiterGrant_mem choice h with mem | mem <;> rw [mem]
    rw [access]
    rfl

/-- Settles O4: a granted write and what power-on reset discards leave memory canonical, and no other command writes to it. -/
theorem stepKeepsMemoryCanonical : Obligations.StepKeepsMemoryCanonical := by
  unfold Obligations.StepKeepsMemoryCanonical
  intro s t wf h
  rcases step_cases h with rfl | ⟨c, rest, -, h⟩
  · exact wf
  · rcases exec_cases h with ⟨tick, rfl⟩ | ⟨straps, levels, rfl⟩ | kept
    · rcases execArbiterGrant_cases h with rfl | ⟨who, -, rfl⟩
      · exact wf
      · rw [(grant_keeps _ who).mem]
        exact memory_wf _ wf
    · cases h
      exact memoryAtReset_wf { s with pending := rest } wf
    · rw [kept.mem]
      exact wf

/-- Settles O5. -/
theorem stepKeepsTheBankAndMapLaws : Obligations.StepKeepsTheBankAndMapLaws := by
  unfold Obligations.StepKeepsTheBankAndMapLaws
  exact ⟨fun s t law h => step_law h (fun _ _ keeps => keeps.bank) (fun _ _ h => h) (fun _ h => h) powerOn_bankLaw law,
    fun s t law h => step_law h (fun _ _ keeps => keeps.map) (fun _ _ h => h) (fun _ h => h) powerOn_mapLaw law⟩

/-- Settles O6. -/
theorem stepKeepsTheRingLaw : Obligations.StepKeepsTheRingLaw := by
  unfold Obligations.StepKeepsTheRingLaw
  exact fun s t law h => step_law h (fun _ _ keeps => keeps.ring) (fun _ _ h => h) (fun _ h => h) powerOn_ringLaw law

/-- The test of R187 keeps the bank region and the ring clear of the control window. -/
theorem windowClear_of_placementLaw {s : State} (law : PlacementLaw s) : WindowClear s := by
  unfold PlacementLaw placementBad at law
  simp only [Bool.or_eq_false_iff] at law
  obtain ⟨⟨⟨-, region⟩, ring⟩, -⟩ := law
  exact ⟨ring, region⟩

/-- Settles O7: the entries' ranges need the settings', so both laws go through the step together. -/
theorem stepKeepsTheControlWordsInRange : Obligations.StepKeepsTheControlWordsInRange := by
  unfold Obligations.StepKeepsTheControlWordsInRange
  refine ⟨fun s t law h => ?_, fun s t settings tables h => ?_, fun s t law h => ?_, fun s => windowClear_of_placementLaw⟩
  · exact step_law (law := fun u => SettingsLaw u.cc) h (fun _ _ keeps => keeps.settings) (fun _ _ h => h) (fun _ h => h)
      (fun _ _ _ _ _ _ _ => powerOn_settingsLaw) law
  · exact (step_law (law := fun u => SettingsLaw u.cc ∧ TablesLaw u.cc) h
      (fun _ _ keeps law => ⟨keeps.settings law.1, keeps.tables law.1 law.2⟩) (fun _ _ h => h) (fun _ h => h)
      (fun _ _ _ _ _ _ _ => ⟨powerOn_settingsLaw, powerOn_tablesLaw⟩) ⟨settings, tables⟩).2
  · exact step_law h (fun _ _ keeps => keeps.placement) (fun _ _ h => h) (fun _ h => h) powerOn_placementLaw law

/-- Settles O8. -/
theorem stepKeepsTheReferenceLaw : Obligations.StepKeepsTheReferenceLaw := by
  unfold Obligations.StepKeepsTheReferenceLaw
  exact fun s t law h => step_law h (fun _ _ keeps => keeps.reference) (fun _ _ h => h) (fun _ h => h) powerOn_referenceLaw law

/-- Settles O9. -/
theorem stepKeepsTheLinkLaws : Obligations.StepKeepsTheLinkLaws := by
  unfold Obligations.StepKeepsTheLinkLaws
  exact ⟨fun s t law h => step_law h (fun _ _ keeps => keeps.supervision) (fun _ _ h => h) (fun _ h => h) powerOn_supervisionLaw law,
    fun s t law h => step_law h (fun _ _ keeps => keeps.starve) (fun _ _ h => h) (fun _ h => h) powerOn_starveLaw law⟩

/-- Settles O10. -/
theorem stepKeepsTheFadeLaw : Obligations.StepKeepsTheFadeLaw := by
  unfold Obligations.StepKeepsTheFadeLaw
  exact fun s t law h => step_law h (fun _ _ keeps => keeps.fade) (fun _ _ h => h) (fun _ h => h) powerOn_fadeLaw law

/-- Settles O11. -/
theorem stepKeepsTheArbiterLaw : Obligations.StepKeepsTheArbiterLaw := by
  unfold Obligations.StepKeepsTheArbiterLaw
  exact fun s t law h => step_law h (fun _ _ keeps => keeps.arbiter) (fun _ _ h => h) (fun _ h => h) powerOn_arbiterLaw law

/-- Settles O12: the state after reset is one that power-on reset leaves. -/
theorem resetMeetsEveryLaw : Obligations.ResetMeetsEveryLaw := by
  unfold Obligations.ResetMeetsEveryLaw State.reset
  exact ⟨rfl, powerOn_mapLaw .., powerOn_ringLaw .., powerOn_settingsLaw, powerOn_tablesLaw, powerOn_placementLaw ..,
    powerOn_referenceLaw .., powerOn_supervisionLaw .., powerOn_starveLaw 0 0 [] [] [] 0 [],
    powerOn_fadeLaw 0 0 [] [] [] 0 [], powerOn_arbiterLaw ..⟩

end Sys2Proof.Machine
end

section
/-! Captures of setting words that only take a value, of the canvas and ring words, and of the run enable (O25 to O29). -/

namespace Sys2Proof.Machine

/-! ### Words taken and refused -/

theorem withReports_nil (s : State) : withReports s [] = s := by
  unfold withReports
  rw [List.append_nil]

theorem takeWord_eq (s : State) (w : CWord) (m v : Word) : takeWord s w m v = takenWith s w m v := by
  rw [takeWord_spec]
  unfold takenWith
  split
  · rw [withReports_nil]; rfl
  · rfl

theorem takenWith_self (s : State) (w : CWord) (m : Word) : takenWith s w m m = { s with cc := s.cc.setWord w m } := by
  unfold takenWith
  rw [if_pos rfl, withReports_nil]

theorem refuseWord_eq (s : State) (w : CWord) (cause : Nat) : refuseWord s w cause = refusedWith s w (BitVec.ofNat 8 cause) := rfl

/-! ### Ranges that share an address (R187, R189) -/

theorem overlap_iff (b1 n1 b2 n2 : Nat) : overlap b1 n1 b2 n2 = true ↔ ∃ a, inRange a b1 n1 = true ∧ inRange a b2 n2 = true := by
  simp only [overlap, inRange_iff, Bool.and_eq_true, decide_eq_true_eq]
  constructor
  · rintro ⟨⟨⟨h1, h2⟩, h3⟩, h4⟩
    exact ⟨max b1 b2, by omega⟩
  · rintro ⟨a, h1, h2⟩
    omega

theorem placementBad_iff (straps : BitVec 2) (c : Shadow) :
    placementBad straps c = true ↔
      4294967296 < c.canvasBase + c.bankSize ∨ 4294967296 < c.regionBase + 4 * c.bankSize
      ∨ (c.ringCode ≠ 0 ∧ 4294967296 < c.ringBase + 16 * c.ringSize)
      ∨ (∃ a, inRange a c.regionBase (4 * c.bankSize) = true ∧ inRange a (controlBase straps) 0x4000 = true)
      ∨ (∃ a, inRange a c.ringBase (16 * c.ringSize) = true ∧ inRange a (controlBase straps) 0x4000 = true)
      ∨ (c.running = true ∧ ∃ a, inRange a c.ringBase (16 * c.ringSize) = true ∧ inRange a c.regionBase (4 * c.bankSize) = true) := by
  unfold placementBad beyondSpace
  simp only [Bool.or_eq_true, Bool.and_eq_true, decide_eq_true_eq, bne_iff_ne, overlap_iff, or_assoc]
  rfl

theorem rangesOverlap_iff (straps : BitVec 2) (c : Shadow) :
    let canvas := fun a => inRange a c.canvasBase c.bankSize = true
    let region := fun a => inRange a c.regionBase (4 * c.bankSize) = true
    let ring := fun a => inRange a c.ringBase (16 * c.ringSize) = true
    let control := fun a => inRange a (controlBase straps) 0x4000 = true
    rangesOverlap straps c = true ↔ ∃ a, (canvas a ∧ region a) ∨ (canvas a ∧ ring a) ∨ (canvas a ∧ control a)
      ∨ (region a ∧ ring a) ∨ (region a ∧ control a) ∨ (ring a ∧ control a) := by
  unfold rangesOverlap
  simp only [Bool.or_eq_true, overlap_iff, ← exists_or, or_assoc]

/-! ### The statements -/

/-- Settles O25: each capture takes the adjusted word. -/
theorem plainSettingsAreClamped : Obligations.PlainSettingsAreClamped := by
  unfold Obligations.PlainSettingsAreClamped
  intro s m
  have period := field_lt s.cc.setting[10] 0 23
  have phase := clampField_spec m 0 23 0 (s.cc.period - 1) (by decide) (Nat.zero_le _) (by unfold Shadow.period; omega)
  rw [Nat.zero_max] at phase
  exact ⟨takeWord_eq .., takeWord_eq .., ⟨_, takeWord_eq .., adjustOrder_spec m⟩, ⟨_, takeWord_eq .., phase⟩,
    ⟨_, takeWord_eq .., clampField_spec m 0 9 1 255 (by decide) (by decide) (by decide)⟩,
    ⟨_, takeWord_eq .., clampField_spec m 0 5 1 15 (by decide) (by decide) (by decide)⟩⟩

/-- Settles O26. -/
theorem rankAndLookMapAreRepaired : Obligations.RankAndLookMapAreRepaired := by
  unfold Obligations.RankAndLookMapAreRepaired
  intro s m
  obtain ⟨rest, codes⟩ := adjustRank_spec m
  exact ⟨⟨_, takeWord_eq .., rest, codes.trans (repairRank_eq _)⟩, ⟨_, takeWord_eq .., adjustCameraMap_spec m⟩⟩

theorem captureLocked_eq (s : State) (w : CWord) (m v : Word) :
    captureLocked s w m v = if s.cc.running = true then refusedWith s w 1
      else if placementBad s.straps (s.cc.setWord w v) = true then refusedWith s w 2 else takenWith s w m v := by
  unfold captureLocked
  rw [takeWord_eq]
  rfl

/-- Settles O27. -/
theorem canvasWordsAreRunLocked : Obligations.CanvasWordsAreRunLocked := by
  unfold Obligations.CanvasWordsAreRunLocked
  refine ⟨fun s i m least most => ?_, placementBad_iff⟩
  obtain h | h | h | h : i = 1 ∨ i = 2 ∨ i = 3 ∨ i = 4 := by
    have : i.val = 1 ∨ i.val = 2 ∨ i.val = 3 ∨ i.val = 4 := by omega
    rcases this with h | h | h | h
    exacts [.inl (Fin.ext h), .inr (.inl (Fin.ext h)), .inr (.inr (.inl (Fin.ext h))), .inr (.inr (.inr (Fin.ext h)))]
  all_goals subst h
  · exact ⟨_, fun _ => adjustWidth_spec m, fun h => absurd h (by decide), fun h => absurd h (by decide), captureLocked_eq ..⟩
  · exact ⟨_, fun h => absurd h (by decide), fun _ => clampField_spec m 0 12 1 2160 (by decide) (by decide) (by decide),
      fun h => absurd h (by decide), captureLocked_eq ..⟩
  · exact ⟨_, fun h => absurd h (by decide), fun h => absurd h (by decide), fun _ => adjustBase_spec m 20 (by decide), captureLocked_eq ..⟩
  · exact ⟨_, fun h => absurd h (by decide), fun h => absurd h (by decide), fun _ => adjustBase_spec m 20 (by decide), captureLocked_eq ..⟩

/-- Settles O28. -/
theorem runEnableStartsAndStopsTheWall : Obligations.RunEnableStartsAndStopsTheWall := by
  unfold Obligations.RunEnableStartsAndStopsTheWall
  refine ⟨rangesOverlap_iff, fun s m => ?_⟩
  have taken : captureMerged s (.setting 0) m = captureEnables s m := rfl
  rw [taken]
  unfold captureEnables
  refine ⟨fun same => ?_, fun clear running => ?_, fun set stopped apart => ⟨?_, ?_⟩, fun set stopped meet => ?_⟩
  · rw [same]
    cases s.cc.running <;> rfl
  · rw [clear, running]
    rfl
  · rw [set, stopped, apart]
    rfl
  · rw [Shadow.running, setting_setWord, if_pos (by decide)]
    exact set
  · obtain ⟨outside, -⟩ := setField_spec (lo := 0) (len := 1) (v := 0) m (by decide) (by decide)
    refine ⟨setField m 0 1 0, outside, ?_, ?_⟩
    · rw [getLsbD_setField _ _ _ _ _ (by decide)]; simp
    · rw [set, stopped, meet]
      rfl

theorem captureRing_eq (s : State) (w : CWord) (m v : Word) :
    captureRing s w m v = if placementBad s.straps (s.cc.setWord w v) = true then refusedWith s w 2
      else ringRestart (takenWith s w m v) := by
  unfold captureRing
  rw [takeWord_eq]
  rfl

/-- With the queue empty and no index write owed, an outstanding part alone is left to write (R194). -/
theorem nextRwClaim_empty (s : State) (owed : s.rw.owed = none) (queue : s.rw.queue = []) :
    nextRwClaim s = (firstOutstanding s).map RwClaim.part := by
  unfold nextRwClaim
  rw [owed, queue]
  cases firstOutstanding s <;> rfl

/-- What a ring restart leaves: an empty ring, and the claim that waits afterwards (R192). -/
theorem ringRestart_spec (s : State) :
    let t := ringRestart s
    (∀ j, s.rw.claim = some (.part j) → t.rw.claim = s.rw.claim ∧ t.passed = s.passed)
    ∧ (s.rw.claim = some .index ∨ s.rw.claim = some .record → t.passed = { s.passed with report := 0 })
    ∧ (s.rw.claim = none → t.passed = s.passed)
    ∧ ((∀ j, s.rw.claim ≠ some (.part j)) → t.rw.claim = (firstOutstanding s).map RwClaim.part)
    ∧ t = { s with passed := t.passed, rw := { s.rw with
              alloc := 0, prod := 0, cons := 0, queue := [], lost := false, owed := none, claim := t.rw.claim } } := by
  unfold ringRestart withdrawRingClaim
  rw [rwRaise_spec]
  rcases claim : s.rw.claim with _ | (_ | j | _) <;> simp [claim, nextRwClaim_empty, firstOutstanding]

theorem firstOutstanding_takenWith (s : State) (w : CWord) (m v : Word) : firstOutstanding (takenWith s w m v) = firstOutstanding s := by
  unfold firstOutstanding takenWith
  rfl

/-- A ring word taken: the shadow changes, and the ring restarts (R192). -/
theorem ringRestart_takenWith (s : State) (w : CWord) (m v : Word) :
    let t := ringRestart (takenWith s w m v)
    let s1 := takenWith s w m v
    (∀ j, s.rw.claim = some (.part j) → t.rw.claim = s.rw.claim ∧ t.passed = s.passed)
    ∧ (s.rw.claim = some .index ∨ s.rw.claim = some .record → t.passed = { s.passed with report := 0 })
    ∧ (s.rw.claim = none → t.passed = s.passed)
    ∧ ((∀ j, s.rw.claim ≠ some (.part j)) → t.rw.claim = (firstOutstanding s).map RwClaim.part)
    ∧ t = { s1 with passed := t.passed, rw := { s1.rw with
              alloc := 0, prod := 0, cons := 0, queue := [], lost := false, owed := none, claim := t.rw.claim } } := by
  obtain ⟨part, other, idle, claim, only⟩ := ringRestart_spec (takenWith s w m v)
  rw [firstOutstanding_takenWith] at claim
  exact ⟨part, other, idle, claim, only⟩

/-- The capture of a ring word: refused, or taken with the ring restarted (R187, R192). -/
theorem captureRing_cases (s : State) (w : CWord) (m v : Word) :
    (placementBad s.straps (s.cc.setWord w v) = true → captureRing s w m v = refusedWith s w 2)
    ∧ (placementBad s.straps (s.cc.setWord w v) = false → captureRing s w m v = ringRestart (takenWith s w m v)) := by
  rw [captureRing_eq]
  exact ⟨fun bad => if_pos bad, fun good => if_neg (by rw [good]; decide)⟩

theorem captureMerged_ringBase (s : State) (m : Word) :
    captureMerged s (.setting 6) m = captureRing s (.setting 6) m (adjustBase m 4) := by
  have six : ((6 : Fin 20) : Nat) = 6 := rfl
  simp only [captureMerged, captureSetting, six]

theorem captureMerged_ringSize (s : State) (m : Word) :
    captureMerged s (.setting 7) m = captureRing s (.setting 7) m (clampField m 0 4 0 9) := by
  have seven : ((7 : Fin 20) : Nat) = 7 := rfl
  simp only [captureMerged, captureSetting, seven]

/-- Settles O29. -/
theorem ringWordsRestartTheRing : Obligations.RingWordsRestartTheRing := by
  unfold Obligations.RingWordsRestartTheRing
  intro s i m h
  rcases h with h | h
  · obtain rfl : i = 6 := Fin.ext h
    rw [captureMerged_ringBase]
    obtain ⟨refused, restarted⟩ := captureRing_cases s (.setting 6) m (adjustBase m 4)
    refine ⟨_, fun _ => adjustBase_spec m 4 (by decide), fun h => absurd h (by decide), refused, fun good => ?_⟩
    rw [restarted good]
    exact ringRestart_takenWith s _ m _
  · obtain rfl : i = 7 := Fin.ext h
    rw [captureMerged_ringSize]
    obtain ⟨refused, restarted⟩ := captureRing_cases s (.setting 7) m (clampField m 0 4 0 9)
    have code := clampField_spec m 0 4 0 9 (by decide) (by decide) (by decide)
    rw [Nat.zero_max] at code
    refine ⟨_, fun h => absurd h (by decide), fun _ => code, refused, fun good => ?_⟩
    rw [restarted good]
    exact ringRestart_takenWith s _ m _

end Sys2Proof.Machine
end

section
/-! Captures of command words and look words (O30 to O34). -/

namespace Sys2Proof.Machine

/-! ### The commit (R13 to R16) -/

theorem isCopySource_iff {s : State} (law : BankLaw s) {k : Fin 4} (filling : (s.banks[k]).state = .filling) (j : Fin 4) :
    isCopySource s j = true ↔ (s.banks[k]).src = some j := by
  simp only [isCopySource, List.any_eq_true, List.mem_finRange, true_and, Bool.and_eq_true, Bool.or_eq_true, beq_iff_eq]
  constructor
  · rintro ⟨i, state, src⟩
    obtain rfl : i = k := law.1 i k (by rcases state with h | h <;> rw [h] <;> rfl) (by rw [filling]; rfl)
    exact src
  · exact fun src => ⟨k, .inl filling, src⟩

/-- The bank that supersession takes off READY (R14). -/
def superseded (s : State) (k j : Fin 4) : Bank :=
  if (s.banks[k]).src = some j then { s.banks[j] with state := .retiring } else (s.banks[j]).freed

/-- The report of a superseded frame (R14). -/
def droppedReport (s : State) : List Report :=
  match bankIn s .ready with
  | none => []
  | some j => [⟨.frameDropped, BitVec.ofNat 8 j.val, BitVec.ofNat 32 (hostNumber s.banks[j]), 0⟩]

theorem supersedeReady_spec {s : State} (law : BankLaw s) {k : Fin 4} (filling : (s.banks[k]).state = .filling) :
    (∀ j : Fin 4, (s.banks[j]).state = .ready → (supersedeReady s).banks[j] = superseded s k j)
      ∧ (∀ j : Fin 4, (s.banks[j]).state ≠ .ready → (supersedeReady s).banks[j] = s.banks[j])
      ∧ supersedeReady s = { s with
          banks := (supersedeReady s).banks, rw := { s.rw with reports := s.rw.reports ++ droppedReport s } } := by
  unfold supersedeReady droppedReport
  obtain ⟨found, ready⟩ : ∃ found, bankIn s .ready = found := ⟨_, rfl⟩
  rw [ready]
  cases found with
  | none =>
    refine ⟨fun j h => absurd h (bankIn_none ready j), fun _ _ => rfl, ?_⟩
    rw [List.append_nil]
  | some j =>
    dsimp only
    rw [releaseBank_spec, if_congr (isCopySource_iff (s := report s .frameDropped j.val _ 0) law filling j) rfl rfl]
    refine ⟨fun i h => ?_, fun i h => ?_, rfl⟩
    · obtain rfl : i = j := law.2.1 i j (by rw [h]; rfl) (by rw [bankIn_some ready]; rfl)
      rw [setBank_same]
      rfl
    · exact setBank_ne _ _ fun e => h (by rw [e]; exact bankIn_some ready)

/-- What the closing of a fill does to the filling bank, the maps and the reports (R15, R16). -/
theorem closeFill_spec (s : State) (k : Fin 4) (n : BitVec 16) :
    let t := closeFill s k n
    t.banks[k] = { s.banks[k] with host := some n, state := if (s.banks[k]).src.isSome = true then .sealing else .ready }
      ∧ (∀ j : Fin 4, j ≠ k → t.banks[j] = s.banks[j])
      ∧ ((s.banks[k]).src.isSome = true → t.map0 = s.map0 ∧ t.map1 = s.map1)
      ∧ ((s.banks[k]).src = none → ¬ lentTo t k)
      ∧ t.rw.reports = s.rw.reports
          ++ (if (s.banks[k]).src = none ∧ (s.banks[k]).written < s.cc.segments then
                [⟨.frameIncomplete, BitVec.ofNat 8 k.val, n.setWidth 32, BitVec.ofNat 32 (s.banks[k]).written⟩]
              else [])
      ∧ t = { s with banks := t.banks, map0 := t.map0, map1 := t.map1, rw := { s.rw with reports := t.rw.reports } } := by
  unfold closeFill
  dsimp only
  cases src : (s.banks[k]).src with
  | some j =>
    refine ⟨setBank_same .., fun i e => setBank_ne _ _ e, fun _ => ⟨rfl, rfl⟩, fun h => absurd h (by simp), ?_, rfl⟩
    simp
  | none =>
    have released : ¬ lentTo (releaseMap (setBank s k { s.banks[k] with state := .ready, host := some n }) k) k := fun h =>
      ((lentTo_releaseMap _ k k).mp h).2 rfl
    simp only [Option.isSome_none, Bool.false_eq_true, if_false, true_and]
    split
    · exact ⟨setBank_same .., fun i e => setBank_ne _ _ e, False.elim, fun _ => released, rfl, rfl⟩
    · exact ⟨setBank_same .., fun i e => setBank_ne _ _ e, False.elim, fun _ => released, by rw [List.append_nil]; rfl, rfl⟩

/-- A commit taken: the READY bank superseded, then the fill closed (R14 to R16). -/
theorem takeCommit_taken {s : State} (law : BankLaw s) (n : BitVec 16) {k : Fin 4} (running : s.cc.running = true)
    (filling : bankIn s .filling = some k) :
    let t := takeCommit s n
    (t.banks[k]).host = some n
      ∧ (t.banks[k]).state = (if (s.banks[k]).src.isSome = true then .sealing else .ready)
      ∧ t.banks[k] = { s.banks[k] with host := some n, state := (t.banks[k]).state }
      ∧ (∀ j : Fin 4, (s.banks[j]).state = .ready → t.banks[j] = superseded s k j)
      ∧ (∀ j : Fin 4, j ≠ k → (s.banks[j]).state ≠ .ready → t.banks[j] = s.banks[j])
      ∧ ((s.banks[k]).src.isSome = true → t.map0 = s.map0 ∧ t.map1 = s.map1)
      ∧ ((s.banks[k]).src = none → ¬ lentTo t k)
      ∧ t.rw.reports = s.rw.reports ++ droppedReport s
          ++ (if (s.banks[k]).src = none ∧ (s.banks[k]).written < s.cc.segments then
                [⟨.frameIncomplete, BitVec.ofNat 8 k.val, n.setWidth 32, BitVec.ofNat 32 (s.banks[k]).written⟩]
              else [])
      ∧ t = { s with banks := t.banks, map0 := t.map0, map1 := t.map1, rw := { s.rw with reports := t.rw.reports } } := by
  have state := bankIn_some filling
  have commit : takeCommit s n = closeFill (supersedeReady s) k n := by
    unfold takeCommit
    rw [running, filling]
    rfl
  obtain ⟨ready, others, only⟩ := supersedeReady_spec law state
  rw [commit]
  generalize supersedeReady s = u at ready others only
  obtain ⟨at_k, rest, sealing, unlent, reports, only'⟩ := closeFill_spec u k n
  have same := others k (by rw [state]; decide)
  have ne (j : Fin 4) (h : (s.banks[j]).state = .ready) : j ≠ k := fun e => by rw [e, state] at h; exact absurd h (by decide)
  generalize closeFill u k n = t at at_k rest sealing unlent reports only'
  rw [same] at at_k sealing unlent reports
  refine ⟨by rw [at_k], by rw [at_k], by rw [at_k], fun j h => (rest j (ne j h)).trans (ready j h),
    fun j e h => (rest j e).trans (others j h), ?_, unlent, ?_, ?_⟩
  · rw [only] at sealing
    exact sealing
  · rw [reports, only]
  · rw [only', only]

/-- Settles O30. -/
theorem commitClosesTheFill : Obligations.CommitClosesTheFill := by
  unfold Obligations.CommitClosesTheFill
  intro s m law
  have captured : captureMerged s (.command 0) m = takeCommit { s with cc := s.cc.setWord (.command 0) m } (m.extractLsb' 0 16) := rfl
  have running : (s.cc.setWord (.command 0) m).running = s.cc.running := rfl
  rw [captured]
  refine ⟨fun stopped => ?_, fun runs unfilled => ?_, fun k runs filling => ?_⟩
  · unfold takeCommit
    dsimp only
    rw [running, stopped]
    rfl
  · unfold takeCommit
    dsimp only
    rw [running, runs, show bankIn { s with cc := s.cc.setWord (.command 0) m } .filling = none from unfilled]
    rfl
  · obtain ⟨host, state, at_k, ready, others, sealing, unlent, reports, only⟩ :=
      takeCommit_taken (s := { s with cc := s.cc.setWord (.command 0) m }) law (m.extractLsb' 0 16) runs filling
    refine ⟨host, state, at_k, fun j h src => ?_, fun j h src => ?_, others, sealing, unlent, reports, only⟩
    · exact (ready j h).trans (if_pos src)
    · exact (ready j h).trans (if_neg src)

/-! ### The wall reset (R22, R30, R31, R117) -/

theorem resetWall_eq (s : State) :
    resetWall s = { s with
      banks := tabulate fun k => (s.banks[k]).freed
      map0 := s.map0.release
      map1 := s.map1.release
      copy := .idle
      passed := { s.passed with copy := 0, scanOut := if s.so.claim = true then 0 else s.passed.scanOut }
      channel := discardSegmentRead (discardCopyRead s.channel)
      tx := tabulate fun l => { s.tx[l] with stage := none }
      so := { s.so with send := none, claim := false, resend := false, links := clearScanFlags s.so.links } } := by
  unfold resetWall abandonSend
  rw [soWithdraw_spec]
  unfold freeAllBanks copyAbandon copyIdle
  dsimp only
  split <;> rfl

/-- Settles O31. -/
theorem wallResetEmptiesTheWall : Obligations.WallResetEmptiesTheWall := by
  unfold Obligations.WallResetEmptiesTheWall
  intro s m
  have captured : captureMerged s (.command 1) m = resetWall { s with cc := s.cc.setWord (.command 1) m } := rfl
  rw [captured]
  rw [resetWall_eq]
  refine ⟨fun k => getElem_tabulate_fin .., ⟨rfl, rfl⟩, ⟨rfl, rfl, rfl, rfl⟩, fun l => ⟨getElem_tabulate_fin .., getElem_tabulate_fin ..⟩,
    rfl, fun data d h => ?_, fun l data d h => ?_, fun copy segment => ?_, rfl⟩
  · simp only [h, discardCopyRead, discardSegmentRead]
  · simp only [h, discardCopyRead, discardSegmentRead]
  · unfold discardCopyRead discardSegmentRead
    cases h : s.channel with
    | copyRead data d => exact absurd h (copy data d)
    | segmentRead l data d => exact absurd h (segment l data d)
    | free | write undo | spRead data | preRead data => rfl

/-! ### Acknowledges (R88, R130, R138) -/

/-- Settles O32. -/
theorem acknowledgesClearWhatTheyName : Obligations.AcknowledgesClearWhatTheyName := by
  unfold Obligations.AcknowledgesClearWhatTheyName
  intro s m
  refine ⟨⟨fun l => ?_, rfl⟩, rfl, fun i => ⟨?_, ?_⟩, rfl⟩
  · show (tabulate fun l : Fin 24 => if m.getLsbD l.val then (s.lsv.links[l]).cleared else s.lsv.links[l])[l] = _
    rw [getElem_tabulate_fin]
    split <;> rfl
  · show (s.tu.pending &&& ~~~ (m.extractLsb' 0 8)).getLsbD i.val = _
    simp
  · show (s.tu.overrun &&& ~~~ (m.extractLsb' 0 8)).getLsbD i.val = _
    simp

/-! ### The consumer index (R195) -/

/-- The distance of two indices, forward in a ring of `n` slots. -/
theorem int_sub_emod (v c n : Nat) (h : c ≤ v + n) : ((v : Int) - c) % n = ((v + n - c) % n : Nat) := by
  rw [Int.natCast_mod, Nat.cast_sub h, Nat.cast_add, add_sub_right_comm, Int.add_emod_right]

theorem captureConsumer_eq (s : State) (m : Word) :
    captureConsumer s m = if consumerOk s (field m 0 12) = true then
        { s with cc := s.cc.setWord (.command 6) m, rw := { s.rw with cons := field m 0 12 } }
      else refusedWith s (.command 6) 4 := rfl

/-- Settles O33. -/
theorem consumerIndexStaysBehindTheProducer : Obligations.ConsumerIndexStaysBehindTheProducer := by
  unfold Obligations.ConsumerIndexStaysBehindTheProducer
  intro s m law
  have captured : captureMerged s (.command 6) m = captureConsumer s m := rfl
  rw [captured, captureConsumer_eq]
  have off : s.cc.ringCode = 0 ↔ s.cc.ringSize = 0 := by
    unfold Shadow.ringSize ringSizeOf
    split
    · next h => simp [h]
    · next h => simp [h]
  unfold consumerOk
  generalize field m 0 12 = v
  dsimp only
  refine ⟨fun none zero => ?_, fun none nonzero => ?_, fun pos below upTo => ?_, fun pos beyond => ?_⟩
  · rw [if_pos (off.mpr none), zero]
    rfl
  · rw [if_pos (off.mpr none), if_neg (by simpa using nonzero)]
  · obtain ⟨-, prod, cons, -⟩ := law.2.1 pos
    rw [int_sub_emod v _ _ (by omega), int_sub_emod s.rw.prod _ _ (by omega), Int.ofNat_le] at upTo
    rw [if_neg fun h => absurd (off.mp h) (by omega), if_pos (by simp [below, upTo])]
  · obtain ⟨-, prod, cons, -⟩ := law.2.1 pos
    rw [int_sub_emod v _ _ (by omega), int_sub_emod s.rw.prod _ _ (by omega), Int.ofNat_lt] at beyond
    rw [if_neg fun h => absurd (off.mp h) (by omega), if_neg (by simp; omega)]

/-! ### The look parameter block (R146, R148) -/

theorem look_setLook (c : Shadow) (sel l : Look) (w : LookWords) : (c.setLook sel w).look l = if l = sel then w else c.look l := by
  cases sel <;> cases l <;> rfl

theorem look_setWord (c : Shadow) (i : Fin 2) (m : Word) (l : Look) :
    (c.setWord (.look i) m).look l = if l = c.selected
      then (if i = 0 then { c.look c.selected with wall := m } else { c.look c.selected with lights := m }) else c.look l :=
  look_setLook ..

/-- A look parameter block word's capture: the active look's change is noticed (R148). -/
theorem captureLook_eq (s : State) (i : Fin 2) (m : Word) :
    captureLook s i m = { s with
      cc := s.cc.setWord (.look i) m
      so := { s.so with
        gains := s.so.gains ++ (if i = 0 ∧ s.cc.selected = s.tu.look then [BitVec.ofNat 8 (field m 0 8)] else []) }
      le := { s.le with
        gainNotices := s.le.gainNotices
          ++ (if i ≠ 0 ∧ s.cc.selected = s.tu.look then [⟨.lights, ⟨field m 0 8, field m 8 8, field m 16 8⟩⟩] else []) } } := by
  have gain : BitVec.ofNat 8 (field m 0 8) = m.extractLsb' 0 8 := (BitVec.ofNat_toNat 8 _).trans (BitVec.setWidth_eq _)
  unfold captureLook
  by_cases active : s.cc.selected = s.tu.look
  · have look : (setShadow s (.look i) m).cc.look s.tu.look
        = if i = 0 then { s.cc.look s.cc.selected with wall := m } else { s.cc.look s.cc.selected with lights := m } :=
      (look_setWord s.cc i m s.tu.look).trans (if_pos active.symm)
    by_cases wall : i = 0
    · dsimp only
      rw [if_pos active, if_pos wall, look, if_pos wall, if_pos ⟨wall, active⟩, if_neg fun h => h.1 wall, gain, List.append_nil]
      rfl
    · dsimp only
      rw [if_pos active, if_neg wall, look, if_neg wall, if_neg fun h => wall h.1, if_pos ⟨wall, active⟩, List.append_nil]
      rfl
  · simp only [active, if_false, and_false, List.append_nil]
    rfl

/-- Settles O34. -/
theorem lookWordsChangeTheSelectedLook : Obligations.LookWordsChangeTheSelectedLook := by
  unfold Obligations.LookWordsChangeTheSelectedLook
  intro s m i
  have captured : captureMerged s (.look i) m = captureLook s i m := rfl
  rw [captured, captureLook_eq]
  exact ⟨(look_setWord ..).trans (if_pos rfl), fun l other => (look_setWord ..).trans (if_neg other), rfl, rfl, rfl⟩

end Sys2Proof.Machine
end

section
/-! Words packed from fields, and the reports of the Reference Unit and the Link Supervisor (R89, R132). -/

namespace Sys2Proof.Machine

/-! ### Words packed from fields -/

/-- Fields put above a value `a` one after another, each clear of what lies below it. -/
def fieldsFit : Nat → List (Nat × Nat) → Prop
  | _, [] => True
  | a, f :: rest => a < 2 ^ f.2 ∧ fieldsFit (a + 2 ^ f.2 * f.1) rest

/-- The number that fields put above a value make. -/
def fieldSum (a : Nat) (fields : List (Nat × Nat)) : Nat := fields.foldl (fun a f => a + 2 ^ f.2 * f.1) a

theorem ofNat_or_shiftLeft (a x k : Nat) (h : a < 2 ^ k) :
    BitVec.ofNat 32 a ||| (BitVec.ofNat 32 x <<< k) = BitVec.ofNat 32 (a + 2 ^ k * x) := by
  have shift : BitVec.ofNat 32 x <<< k = BitVec.ofNat 32 (2 ^ k * x) := by
    refine BitVec.eq_of_toNat_eq ?_
    rw [BitVec.toNat_shiftLeft, BitVec.toNat_ofNat, BitVec.toNat_ofNat, Nat.shiftLeft_eq, Nat.mod_mul_mod, Nat.mul_comm]
  rw [shift, Nat.add_comm, Nat.two_pow_add_eq_or_of_lt h, Nat.or_comm]
  refine BitVec.eq_of_toNat_eq ?_
  rw [BitVec.toNat_or, BitVec.toNat_ofNat, BitVec.toNat_ofNat, BitVec.toNat_ofNat, Nat.or_mod_two_pow]

theorem pack_eq (fields : List (Nat × Nat)) (h : fieldsFit 0 fields) : pack fields = BitVec.ofNat 32 (fieldSum 0 fields) := by
  have fold : ∀ (fields : List (Nat × Nat)) (a : Nat), fieldsFit a fields →
      fields.foldl (fun w f => w ||| (BitVec.ofNat 32 f.1 <<< f.2)) (BitVec.ofNat 32 a) = BitVec.ofNat 32 (fieldSum a fields) := by
    intro fields
    induction fields with
    | nil => intro a _; rfl
    | cons f rest ih =>
      intro a ⟨below, fit⟩
      rw [List.foldl_cons, ofNat_or_shiftLeft a f.1 f.2 below, ih _ fit]
      rfl
  exact fold fields 0 h

theorem bit_le (b : Bool) : bit b ≤ 1 := by cases b <;> decide

theorem Lock.code_le (l : Lock) : l.code ≤ 4 := by cases l <;> decide

theorem refCauseCode_le (c : RefCause) : refCauseCode c ≤ 5 := by cases c <;> decide

theorem LinkState.code_le (s : LinkState) : s.code ≤ 3 := by cases s <;> decide

theorem LinkCause.code_le (c : LinkCause) : c.code ≤ 7 := by cases c <;> decide

/-! ### Reports of a lock state and of a link -/

theorem reportRef_eq (s : State) (prev : Lock) (cause : RefCause) :
    reportRef s prev cause = withReports s [refReport s.ru.lock prev (refCauseCode cause) s.ru.fault] := by
  have hp := prev.code_le
  have hc := refCauseCode_le cause
  have hb := bit_le s.ru.fault
  have packed : pack [(prev.code, 0), (refCauseCode cause, 8), (bit s.ru.fault, 16)]
      = BitVec.ofNat 32 (prev.code + 256 * refCauseCode cause + 65536 * bit s.ru.fault) := by
    rw [pack_eq]
    · congr 1
      simp only [fieldSum, List.foldl_cons, List.foldl_nil]
      omega
    · simp only [fieldsFit, and_true]
      omega
  unfold reportRef report withReports refReport
  rw [packed]

theorem reportLink_eq (s : State) (l : Fin 24) (prev : LinkState) (cause : LinkCause) :
    reportLink s l prev cause = withReports s [linkReport l prev s.lsv.links[l] cause] := by
  unfold reportLink report withReports linkReport
  generalize s.lsv.links[l] = r
  have hp := prev.code_le
  have hs := r.state.code_le
  have hc := cause.code_le
  have h1 := bit_le r.checkError
  have h2 := bit_le r.framingError
  have h3 := bit_le r.overrun
  have h4 := bit_le r.inhibit
  have packed : pack [(prev.code, 0), (r.state.code, 4), (cause.code, 8), (bit r.checkError, 12), (bit r.framingError, 13),
      (bit r.overrun, 14), (bit r.inhibit, 15), (r.miss, 16)]
      = BitVec.ofNat 32 (prev.code + 16 * r.state.code + 256 * cause.code + 4096 * bit r.checkError + 8192 * bit r.framingError
        + 16384 * bit r.overrun + 32768 * bit r.inhibit + 65536 * r.miss) := by
    rw [pack_eq]
    · congr 1
      simp only [fieldSum, List.foldl_cons, List.foldl_nil]
      omega
    · simp only [fieldsFit, and_true]
      omega
  dsimp only
  rw [packed]

end Sys2Proof.Machine
end

section
/-! Captures of the reference words (O35). -/

namespace Sys2Proof.Machine

theorem captureMerged_mode (s : State) (m : Word) : captureMerged s (.setting 9) m = captureMode s m := by
  have nine : ((9 : Fin 20) : Nat) = 9 := rfl
  simp only [captureMerged, captureSetting, nine]

theorem captureMerged_period (s : State) (m : Word) : captureMerged s (.setting 10) m = capturePeriod s m := by
  have ten : ((10 : Fin 20) : Nat) = 10 := rfl
  simp only [captureMerged, captureSetting, ten]

theorem captureMerged_tolerance (s : State) (m : Word) : captureMerged s (.setting 11) m = captureTolerance s m := by
  have eleven : ((11 : Fin 20) : Nat) = 11 := rfl
  simp only [captureMerged, captureSetting, eleven]

/-! ### The shadows after a reference word -/

theorem modeInternal_setWord (c : Shadow) (i : Fin 20) (v : Word) :
    (c.setWord (.setting i) v).modeInternal = if i.val = 9 then v.getLsbD 0 else c.modeInternal := by
  rw [Shadow.modeInternal, setting_setWord]
  split <;> rfl

theorem period_setWord (c : Shadow) (i : Fin 20) (v : Word) (h : i.val ≠ 10) : (c.setWord (.setting i) v).period = c.period := by
  rw [Shadow.period, setting_setWord, if_neg h]
  rfl

theorem tolerance_setWord (c : Shadow) (i : Fin 20) (v : Word) (h : i.val ≠ 11) : (c.setWord (.setting i) v).tolerance = c.tolerance := by
  rw [Shadow.tolerance, setting_setWord, if_neg h]
  rfl

/-! ### The mode (R85, R86) -/

theorem enterInternal_eq (s : State) :
    ∃ t : Nat, (∀ f, s.ru.lastFrame = some f → t = max (f + s.cc.period) s.now) ∧ (s.ru.lastFrame = none → t = s.now + s.cc.period)
      ∧ enterInternal s = withReports
          { s with ru := { s.ru with
              lock := .internal, lastPulse := none, good := 0, held := 0, coast := s.cc.period, watch := none
              schedule := [⟨t, true⟩] } }
          [refReport .internal s.ru.lock 4 s.ru.fault] := by
  unfold enterInternal
  dsimp only
  rw [reportRef_eq]
  cases h : s.ru.lastFrame with
  | none => exact ⟨_, fun f hf => absurd hf (by simp), fun _ => rfl, rfl⟩
  | some f => exact ⟨_, fun f' hf => by rw [Option.some.inj hf], fun hf => absurd hf (by simp), rfl⟩

theorem captureMode_eq (s : State) (m : Word) :
    captureMode s m = (let s1 := takenWith s (.setting 9) m (clampField m 8 5 2 15)
      if m.getLsbD 0 = true ∧ s.cc.modeInternal = false then enterInternal s1
      else if m.getLsbD 0 = false ∧ s.cc.modeInternal = true then enterAcquire s1 else s1) := by
  have mode : (takenWith s (.setting 9) m (clampField m 8 5 2 15)).cc.modeInternal = m.getLsbD 0 :=
    (modeInternal_setWord s.cc 9 _).trans ((if_pos (by decide)).trans (getLsbD_setField_apart _ _ _ _ _ (by decide) (by decide)))
  unfold captureMode
  rw [takeWord_eq]
  dsimp only
  rw [mode]
  cases m.getLsbD 0 <;> cases s.cc.modeInternal <;> rfl

/-! ### The period and the tolerance (R85, R87) -/

theorem schedInsert_last {l : List Sched} {e : Sched} (h : ∀ x ∈ l, x.time ≤ e.time) : schedInsert l e = l ++ [e] := by
  induction l with
  | nil => rfl
  | cons x xs ih =>
    unfold schedInsert
    rw [if_neg (Nat.not_lt.mpr (h x List.mem_cons_self)), ih fun y hy => h y (List.mem_cons_of_mem _ hy)]
    rfl

/-- In a schedule that ascends, no time is later than the last. -/
theorem time_le_getLast {l : List Sched} (sorted : l.Pairwise fun a b => a.time ≤ b.time) {e : Sched} (last : l.getLast? = some e) :
    ∀ x ∈ l, x.time ≤ e.time := by
  obtain ⟨init, rfl⟩ := List.getLast?_eq_some_iff.mp last
  intro x hx
  rcases List.mem_append.mp hx with hx | hx
  · exact (List.pairwise_append.mp sorted).2.2 x hx e (List.mem_singleton_self e)
  · rw [List.mem_singleton.mp hx]

theorem internalPeriod_eq (s : State) :
    ∃ t draws : Nat, s.now ≤ t ∧ (∀ f, s.ru.lastFrame = some f → t = max (f + s.cc.period) s.now ∧ draws = s.draws)
      ∧ internalPeriod s = { s with ru := { s.ru with coast := s.cc.period, schedule := [⟨t, true⟩] }, draws := draws } := by
  refine ⟨max (lastFramePlus s s.cc.period) s.now, drawnAfter s, le_max_right _ _, fun f hf => ⟨?_, ?_⟩, rfl⟩
  · rw [lastFramePlus, hf]
  · rw [drawnAfter, hf]
    rfl

theorem restartAcquire_eq (s : State) (sorted : s.ru.schedule.Pairwise fun a b => a.time ≤ b.time) :
    ∃ schedule : List Sched,
      (freeRuns s.ru.schedule ≠ [] → schedule = s.ru.schedule)
      ∧ (∀ e, freeRuns s.ru.schedule = [] → s.ru.schedule.getLast? = some e →
          schedule = s.ru.schedule ++ [⟨e.time + s.ru.coast, true⟩])
      ∧ (∀ f, s.ru.schedule = [] → s.ru.lastFrame = some f → schedule = [⟨max (f + s.ru.coast) s.now, true⟩])
      ∧ (s.ru.schedule = [] → s.ru.lastFrame = none → schedule = [])
      ∧ restartAcquire s = withReports
          { s with ru := { s.ru with lock := .acquire, good := 0, held := 0, watch := none, schedule := schedule } }
          [refReport .acquire s.ru.lock 5 s.ru.fault] := by
  unfold restartAcquire
  dsimp only
  rw [reportRef_eq]
  by_cases free : hasFreeRun s.ru.schedule = true
  · have hasFree := List.length_pos_iff.mp ((hasFreeRun_iff _).mp free)
    rw [if_pos free]
    refine ⟨s.ru.schedule, fun _ => rfl, fun _ h => absurd h hasFree, fun _ h => ?_, fun h _ => h, rfl⟩
    rw [h] at free
    exact absurd free (by decide)
  · have noFree : freeRuns s.ru.schedule = [] := by
      rw [hasFreeRun_iff] at free
      exact List.length_eq_zero_iff.mp (by omega)
    rw [if_neg free]
    cases last : s.ru.schedule.getLast? with
    | some e =>
      have filled : s.ru.schedule ≠ [] := by
        rintro empty
        rw [empty] at last
        exact absurd last (by simp)
      refine ⟨s.ru.schedule ++ [⟨e.time + s.ru.coast, true⟩], fun h => absurd noFree h, fun e' _ he => ?_,
        fun _ h => absurd h filled, fun h => absurd h filled, ?_⟩
      · rw [Option.some.inj he]
      · dsimp only [RefUnit.addFree]
        rw [schedInsert_last (e := ⟨e.time + s.ru.coast, true⟩) fun x hx =>
          (time_le_getLast sorted last x hx).trans (Nat.le_add_right _ _)]
        rfl
    | none =>
      have empty := List.getLast?_eq_none_iff.mp last
      cases frame : s.ru.lastFrame with
      | none =>
        refine ⟨s.ru.schedule, fun h => absurd noFree h, fun _ _ h => absurd h (by simp), fun _ _ h => absurd h (by simp),
          fun h _ => h, rfl⟩
      | some f =>
        refine ⟨[⟨max (f + s.ru.coast) s.now, true⟩], fun h => absurd noFree h, fun _ _ h => absurd h (by simp), fun f' _ h => ?_,
          fun _ h => absurd h (by simp), ?_⟩
        · rw [Option.some.inj h]
        · dsimp only [RefUnit.addFree]
          rw [empty]
          rfl

/-- Settles O35: the mode by its two changes, the period and the tolerance by the lock's mode. -/
theorem referenceSettingsReschedule : Obligations.ReferenceSettingsReschedule := by
  unfold Obligations.ReferenceSettingsReschedule
  intro s m settings reference
  obtain ⟨sorted, -, -, -, -, internal, -⟩ := reference
  have phase := ((settingsLaw_iff s.cc).mp settings).2
  refine ⟨?_, fun i h => ?_⟩
  · obtain ⟨outside, value⟩ := clampField_spec m 8 5 2 15 (by decide) (by decide) (by decide)
    refine ⟨_, outside, value, ?_⟩
    rw [captureMerged_mode, captureMode_eq]
    dsimp only
    refine ⟨fun same => ?_, fun on off => ?_, fun off on => ?_⟩
    · rw [if_neg, if_neg]
      all_goals
        rintro ⟨h1, h2⟩
        rw [h1, h2] at same
        exact absurd same (by decide)
    · obtain ⟨t, later, first, eq⟩ := enterInternal_eq (takenWith s (.setting 9) m (clampField m 8 5 2 15))
      have period : (takenWith s (.setting 9) m (clampField m 8 5 2 15)).cc.period = s.cc.period := period_setWord s.cc 9 _ (by decide)
      rw [period] at later first eq
      exact ⟨t, later, first, by rw [if_pos ⟨on, off⟩, eq]; rfl⟩
    · rw [if_neg fun c => absurd (off.symm.trans c.1) (by decide), if_pos ⟨off, on⟩]
      unfold enterAcquire
      rw [reportRef_eq, ← internal.mpr on]
      rfl
  · rcases h with h | h
    · obtain rfl : i = 10 := Fin.ext h
      have bounds : max 400000 (s.cc.phaseOffset + 1) ≤ 5000000 := by
        have := ((settingsLaw_iff s.cc).mp settings).1 10
        have limit : s.cc.period ≤ 5000000 := this.2
        omega
      obtain ⟨outside, value⟩ := clampField_spec m 0 23 _ 5000000 (by decide) bounds (by decide)
      refine ⟨_, fun _ => ⟨outside, value⟩, fun h => absurd h (by decide), ?_⟩
      rw [captureMerged_period]
      unfold capturePeriod adjustPeriod
      rw [takeWord_eq]
      generalize clampField m 0 23 (max 400000 (s.cc.phaseOffset + 1)) 5000000 = v
      have tolerance : (takenWith s (.setting 10) m v).cc.tolerance = s.cc.tolerance := tolerance_setWord s.cc 10 _ (by decide)
      dsimp only
      refine ⟨fun same _ => by rw [if_pos same], fun h => absurd h (by decide), fun _ on changed => ?_, fun off changed => ?_⟩
      · obtain ⟨t, draws, future, later, eq⟩ := internalPeriod_eq (takenWith s (.setting 10) m v)
        exact ⟨t, draws, future, later, by rw [if_neg changed, if_pos on, eq]; rfl⟩
      · have changed := changed.resolve_right fun h => h tolerance
        obtain ⟨schedule, kept, after, first, cold, eq⟩ := restartAcquire_eq (takenWith s (.setting 10) m v) sorted
        refine ⟨schedule, kept, after, first, cold, ?_⟩
        rw [if_neg changed, if_neg (by rw [off]; decide), eq]
        rfl
    · obtain rfl : i = 11 := Fin.ext h
      obtain ⟨outside, value⟩ := clampField_spec m 0 17 1 65535 (by decide) (by decide) (by decide)
      refine ⟨_, fun h => absurd h (by decide), fun _ => ⟨outside, value⟩, ?_⟩
      rw [captureMerged_tolerance]
      unfold captureTolerance
      rw [takeWord_eq]
      generalize clampField m 0 17 1 65535 = v
      have period : (takenWith s (.setting 11) m v).cc.period = s.cc.period := period_setWord s.cc 11 _ (by decide)
      dsimp only
      refine ⟨fun _ same => by rw [if_pos same], fun _ on => by rw [if_pos on, ite_self], fun h => absurd h (by decide), fun off changed => ?_⟩
      have changed := changed.resolve_left fun h => h period
      obtain ⟨schedule, kept, after, first, cold, eq⟩ := restartAcquire_eq (takenWith s (.setting 11) m v) sorted
      refine ⟨schedule, kept, after, first, cold, ?_⟩
      rw [if_neg changed, if_neg (by rw [off]; decide), eq]
      rfl

end Sys2Proof.Machine
end

section
/-! Captures of the tile link words (O36, O37). -/

namespace Sys2Proof.Machine

/-! ### Starvation and IDLE packets (R113, R114) -/

/-- An IDLE packet that begins on a link starves it (R113). -/
def IdleStarves (s : State) (l : Fin 24) : Prop :=
  (s.tx[l]).stage = none ∧ (s.so.links[l]).primed = true ∧ (s.so.links[l]).starved = false
    ∧ ∃ p, partOf s l = some p ∧ p.complete = false

theorem starveTest_of_starves (s : State) (l : Fin 24) (h : IdleStarves s l) :
    starveTest s l = setScanLink s l { s.so.links[l] with starved := true, starves := (s.so.links[l]).starves + 1 } := by
  obtain ⟨stage, primed, starved, p, part, incomplete⟩ := h
  unfold starveTest
  rw [part]
  exact if_pos ⟨by rw [incomplete]; rfl, primed, by rw [stage]; rfl, by rw [starved]; rfl⟩

theorem starveTest_of_not (s : State) (l : Fin 24) (h : ¬ IdleStarves s l) : starveTest s l = s := by
  unfold starveTest
  split
  · rfl
  · next p part =>
    refine if_neg fun ⟨incomplete, primed, stage, starved⟩ => h ⟨?_, primed, ?_, p, part, ?_⟩
    · simpa using stage
    · simpa using starved
    · simpa using incomplete

theorem starves_beginPacket (s : State) (l : Fin 24) (p : Packet) : IdleStarves (beginPacket s l p) l ↔ IdleStarves s l := by
  unfold IdleStarves
  rw [beginPacket_spec]
  simp only [put_same]
  rfl

/-- An IDLE packet begins, and starves its link or not. -/
theorem beginIdle_eq (s : State) (l : Fin 24) :
    ∃ r : ScanLink, (IdleStarves s l → r = { s.so.links[l] with starved := true, starves := (s.so.links[l]).starves + 1 })
      ∧ (¬ IdleStarves s l → r = s.so.links[l])
      ∧ beginIdle s l = { s with
          tx := put s.tx l { s.tx[l] with shift := some ⟨.idle, s.now + 8 * s.cc.linkByteTicks l⟩ }
          so := { s.so with links := put s.so.links l r } } := by
  unfold beginIdle
  by_cases h : IdleStarves s l
  · rw [starveTest_of_starves _ _ ((starves_beginPacket s l .idle).mpr h)]
    exact ⟨_, fun _ => rfl, fun n => absurd h n, rfl⟩
  · rw [starveTest_of_not _ _ fun h' => h ((starves_beginPacket s l .idle).mp h')]
    refine ⟨s.so.links[l], fun h' => absurd h' h, fun _ => rfl, ?_⟩
    rw [put_self]
    rfl

/-- The transmitter of a link whose enable is set begins an IDLE packet if its shift is empty (R114). -/
theorem txEnabled_eq (s : State) (l : Fin 24) :
    ∃ (x : Transmitter) (r : ScanLink),
      ((s.tx[l]).shift = none → x = { s.tx[l] with shift := some ⟨.idle, s.now + 8 * s.cc.linkByteTicks l⟩ })
      ∧ ((s.tx[l]).shift ≠ none → x = s.tx[l])
      ∧ ((s.tx[l]).shift = none ∧ IdleStarves s l → r = { s.so.links[l] with starved := true, starves := (s.so.links[l]).starves + 1 })
      ∧ (¬ ((s.tx[l]).shift = none ∧ IdleStarves s l) → r = s.so.links[l])
      ∧ txEnabled s l = { s with tx := put s.tx l x, so := { s.so with links := put s.so.links l r } } := by
  unfold txEnabled
  by_cases empty : (s.tx[l]).shift = none
  · obtain ⟨r, starves, not, eq⟩ := beginIdle_eq s l
    rw [if_pos (by rw [empty]; rfl), eq]
    exact ⟨_, r, fun _ => rfl, fun h => absurd empty h, fun h => starves h.2, fun h => not fun st => h ⟨empty, st⟩, rfl⟩
  · rw [if_neg (by simpa using empty)]
    refine ⟨s.tx[l], s.so.links[l], fun h => absurd h empty, fun _ => rfl, fun h => absurd h.1 empty, fun _ => rfl, ?_⟩
    rw [put_self, put_self]

/-! ### Changes of link state (R128, R132) -/

theorem changeLink_eq (s : State) (l : Fin 24) (r : LinkRecord) (cause : LinkCause) :
    changeLink s l r cause = withReports
      { s with
        lsv := { s.lsv with links := put s.lsv.links l r }
        so := { s.so with
          leaves := s.so.leaves ++ (if (s.lsv.links[l]).state = .active ∧ r.state ≠ .active then [l] else [])
          recovers := s.so.recovers ++ (if r.state = .recover ∧ (s.lsv.links[l]).state ≠ .recover then [l] else []) } }
      [linkReport l (s.lsv.links[l]).state r cause] := by
  have reports : (changeLink s l r cause).rw =
      { s.rw with reports := s.rw.reports ++ [linkReport l (s.lsv.links[l]).state r cause] } := by
    unfold changeLink
    dsimp only
    rw [reportLink_eq]
    split <;> split
    all_goals
      dsimp only [withReports, giveLeave, giveRecover, setLink]
      rw [put_same]
  rw [changeLink_spec, reports]
  rfl

/-! ### The header of a link entry (O36, O37) -/

theorem header_setWord (c : Shadow) (l : Fin 24) (v : Word) : ((c.setWord (.tile l 0) v).tiles[l])[0] = v :=
  (congrArg (fun w : Vector Word 32 => w[0]) (put_same c.tiles l (put c.tiles[l] 0 v))).trans (put_same c.tiles[l] 0 v)

/-- The state after a header is taken and its rate noted, before the change of enable. -/
def headerTaken (s : State) (l : Fin 24) (m : Word) : State := noteRate (takenWith s (.tile l 0) m (adjustHeader m)) l

theorem captureMerged_header (s : State) (l : Fin 24) (m : Word) :
    captureMerged s (.tile l 0) m = raiseResend (linkEnableEffect s (headerTaken s l m) l) := by
  show captureTile s l 0 m = _
  unfold captureTile
  rw [if_pos rfl, takeWord_eq]
  rfl

theorem headerTaken_enable (s : State) (l : Fin 24) (m : Word) : (headerTaken s l m).cc.linkEnable l = m.getLsbD 0 :=
  (congrArg (BitVec.getLsbD · 0) (header_setWord s.cc l (adjustHeader m))).trans (adjustHeader_low m).1

theorem headerTaken_ticks (s : State) (l : Fin 24) (m : Word) : (headerTaken s l m).cc.linkByteTicks l = field m 1 2 + 1 :=
  (congrArg (field · 1 2 + 1) (header_setWord s.cc l (adjustHeader m))).trans (congrArg (· + 1) (adjustHeader_low m).2)

/-- A header that leaves the link enable as it was. -/
theorem linkEnableEffect_same (s0 s : State) (l : Fin 24) (h : s.cc.linkEnable l = s0.cc.linkEnable l) : linkEnableEffect s0 s l = s := by
  unfold linkEnableEffect
  rw [h]
  cases s0.cc.linkEnable l <;> rfl

theorem linkEnableEffect_set (s0 s : State) (l : Fin 24) (now : s.cc.linkEnable l = true) (before : s0.cc.linkEnable l = false) :
    linkEnableEffect s0 s l = linkEnabled (txEnabled s l) l := by
  unfold linkEnableEffect
  rw [now, before]
  rfl

theorem linkEnableEffect_clear (s0 s : State) (l : Fin 24) (now : s.cc.linkEnable l = false) (before : s0.cc.linkEnable l = true) :
    linkEnableEffect s0 s l = linkDisabled (txDisabled s l) l := by
  unfold linkEnableEffect
  rw [now, before]
  rfl

/-- The link enable set: an OFF link enters RECOVER with a recover notice and a report. -/
theorem linkEnabled_eq (s : State) (l : Fin 24) (off : (s.lsv.links[l]).state = .off) :
    linkEnabled s l = withReports
      { s with
        lsv := { s.lsv with links := put s.lsv.links l { s.lsv.links[l] with state := .recover, miss := 0 } }
        so := { s.so with recovers := s.so.recovers ++ [l] } }
      [linkReport l .off { s.lsv.links[l] with state := .recover, miss := 0 } .enabled] := by
  unfold linkEnabled
  rw [changeLink_eq, off, if_neg (by simp), if_pos (by simp), List.append_nil]

/-- The link enable cleared: the link enters OFF, with a leave notice if it was ACTIVE, and a report. -/
theorem linkDisabled_eq (s : State) (l : Fin 24) :
    linkDisabled s l = withReports
      { s with
        lsv := { s.lsv with links := put s.lsv.links l { s.lsv.links[l] with state := .off, buffer := none } }
        so := { s.so with leaves := s.so.leaves ++ (if (s.lsv.links[l]).state = .active then [l] else []) } }
      [linkReport l (s.lsv.links[l]).state { s.lsv.links[l] with state := .off, buffer := none } .disabled] := by
  unfold linkDisabled
  rw [changeLink_eq, if_neg (c := LinkState.off = .recover ∧ _) (by simp), List.append_nil]
  simp only [ne_eq, reduceCtorEq, not_false_eq_true, and_true]

/-- The change of enable leaves the receiver's rate codes alone. -/
theorem linkEnableEffect_rates (s0 s : State) (l : Fin 24) : (linkEnableEffect s0 s l).lsv.rates = s.lsv.rates := by
  unfold linkEnableEffect
  split
  · rw [linkEnabled, changeLink_lsv, txEnabled_only]
  · split
    · rw [linkDisabled, changeLink_lsv]
      rfl
    · rfl

theorem rateAt_past (s : State) (l : Fin 24) (x : Nat) (h : x < s.now) : rateAt (noteRate s l) l x = rateAt s l x := by
  unfold rateAt noteRate
  dsimp only
  rw [put_same, List.find?_cons_of_neg (by simpa using h)]

/-- Settles O36, by the place of the word in the link's entry. -/
theorem tileWordsAreAdjustedAndAskForAResend : Obligations.TileWordsAreAdjustedAndAskForAResend := by
  unfold Obligations.TileWordsAreAdjustedAndAskForAResend
  intro s l m
  dsimp only
  have tile (r : Fin 32) : captureMerged s (.tile l r) m = captureTile s l r m := rfl
  refine ⟨⟨adjustHeader m, adjustHeader_adjusted m, fun same => ?_, fun x => ?_, fun j other => ?_⟩, ?_, fun r low high => ?_, fun r high => ?_⟩
  · rw [captureMerged_header, linkEnableEffect_same _ _ _ ((headerTaken_enable s l m).trans same)]
    rfl
  · have rates : rateAt (captureMerged s (.tile l 0) m) l x = rateAt (headerTaken s l m) l x := by
      have e : (captureMerged s (.tile l 0) m).lsv.rates = (headerTaken s l m).lsv.rates := by
        rw [captureMerged_header]
        exact linkEnableEffect_rates ..
      unfold rateAt
      rw [e]
    rw [rates]
    unfold headerTaken
    split
    · next future =>
      exact (rateAt_noteRate (takenWith s (.tile l 0) m (adjustHeader m)) l l x future).trans
        ((if_pos rfl).trans (congrArg (field · 1 2) (header_setWord s.cc l (adjustHeader m))))
    · next past =>
      exact rateAt_past (takenWith s (.tile l 0) m (adjustHeader m)) l x (Nat.lt_of_not_le past)
  · have rates : (captureMerged s (.tile l 0) m).lsv.rates = (headerTaken s l m).lsv.rates := by
      rw [captureMerged_header]
      exact linkEnableEffect_rates ..
    rw [rates]
    exact put_ne _ _ _ _ other
  · rw [tile]
    unfold captureTile
    rw [if_neg (by decide), if_pos rfl, takeWord_eq]
    rfl
  · refine ⟨_, adjustRecord_adjusted s.cc l m, ?_⟩
    rw [tile]
    unfold captureTile
    rw [if_neg fun e => absurd low (by rw [e]; decide), if_neg fun e => absurd low (by rw [e]; decide), if_pos high, takeWord_eq]
    rfl
  · rw [tile]
    unfold captureTile
    rw [if_neg fun e => absurd high (by rw [e]; decide), if_neg fun e => absurd high (by rw [e]; decide), if_neg (Nat.not_lt.mpr high), takeWord_eq]

/-- Settles O37, by the two changes of the enable. -/
theorem linkEnableActsOnLinkAndTransmitter : Obligations.LinkEnableActsOnLinkAndTransmitter := by
  unfold Obligations.LinkEnableActsOnLinkAndTransmitter
  intro s l m law changed
  have off := (((supervisionLaw_iff s).mp law).2 l).1.1
  have enable := headerTaken_enable s l m
  have ticks := headerTaken_ticks s l m
  rw [captureMerged_header]
  dsimp only
  cases now : m.getLsbD 0 with
  | true =>
    have before : s.cc.linkEnable l = false := by rw [now] at changed; simpa using changed.symm
    have isOff : ((headerTaken s l m).lsv.links[l]).state = .off := off.mpr before
    obtain ⟨x, r, shifted, shifting, starves, not, eq⟩ := txEnabled_eq (headerTaken s l m) l
    rw [linkEnableEffect_set _ _ _ (enable.trans now) before, linkEnabled_eq _ _ (by rw [eq]; exact isOff), eq]
    refine ⟨⟨_, adjustHeader_adjusted m, rfl, fun _ => rfl, fun h => absurd h (by decide)⟩,
      fun _ => ⟨put_same .., rfl, rfl, fun empty => ?_, fun full => ?_, ?_⟩, fun h => absurd h (by decide), fun j other => ?_, rfl⟩
    · rw [← ticks]
      exact (put_same ..).trans (shifted empty)
    · exact (put_same ..).trans (shifting full)
    · refine (put_same ..).trans ?_
      split
      · next h =>
        obtain ⟨empty, stage, primed, starved, part⟩ := h
        exact starves ⟨empty, stage, primed, starved, part⟩
      · next h =>
        refine not fun ⟨empty, stage, primed, starved, part⟩ => h ⟨empty, stage, primed, starved, part⟩
    · exact ⟨put_ne _ _ _ _ other, put_ne _ _ _ _ other, put_ne _ _ _ _ other⟩
  | false =>
    have before : s.cc.linkEnable l = true := by rw [now] at changed; simpa using changed.symm
    rw [linkEnableEffect_clear _ _ _ (enable.trans now) before, linkDisabled_eq]
    refine ⟨⟨_, adjustHeader_adjusted m, rfl, fun h => absurd h (by decide), fun _ => rfl⟩, fun h => absurd h (by decide),
      fun _ => ⟨put_same .., rfl, rfl, put_same .., rfl⟩, fun j other => ⟨put_ne _ _ _ _ other, put_ne _ _ _ _ other, rfl⟩, rfl⟩

end Sys2Proof.Machine
end

section
/-! Captures of the lamp link setups and of the zone and fixture entries (O38). -/

namespace Sys2Proof.Machine

/-! ### Lamp link setups (R172, R179, R180) -/

theorem captureMerged_lamp (s : State) (l : Fin 2) (m : Word) : captureMerged s (lampWordOf l) m = captureLamp s (lampWordOf l) l m := by
  have seventeen : ((17 : Fin 20) : Nat) = 17 := rfl
  have eighteen : ((18 : Fin 20) : Nat) = 18 := rfl
  obtain rfl | rfl : l = 0 ∨ l = 1 := by omega
  · unfold lampWordOf
    rw [if_pos rfl]
    simp only [captureMerged, captureSetting, seventeen]
  · unfold lampWordOf
    rw [if_neg (by decide)]
    simp only [captureMerged, captureSetting, eighteen]

/-- The setup word of a lamp link after it is written. -/
theorem lampWord_setWord (c : Shadow) (l : Fin 2) (v : Word) : (c.setWord (lampWordOf l) v).lampWord l = v := by
  obtain rfl | rfl : l = 0 ∨ l = 1 := by omega
  · exact put_same c.setting 17 v
  · exact put_same c.setting 18 v

theorem lampEnabled_empty (s : State) (l : Fin 2) (h : (s.lamps[l]).shift = .empty) : lampEnabled s l = beginFill s l := by
  unfold lampEnabled
  rw [h]

theorem lampEnabled_busy (s : State) (l : Fin 2) (h : (s.lamps[l]).shift ≠ .empty) : lampEnabled s l = s := by
  unfold lampEnabled
  split
  · next e => exact absurd e h
  · rfl
  · rfl

/-- A setup captured, by its change of enable. -/
theorem captureLamp_eq (s : State) (l : Fin 2) (m : Word) :
    let s1 := takenWith s (lampWordOf l) m (adjustLamp m)
    (m.getLsbD 0 = s.cc.lampEnable l → captureLamp s (lampWordOf l) l m = s1)
    ∧ (m.getLsbD 0 = true → s.cc.lampEnable l = false → captureLamp s (lampWordOf l) l m = lampEnabled s1 l)
    ∧ (m.getLsbD 0 = false → s.cc.lampEnable l = true → captureLamp s (lampWordOf l) l m = lampDisabled s1 l) := by
  have enable : (takenWith s (lampWordOf l) m (adjustLamp m)).cc.lampEnable l = m.getLsbD 0 :=
    (congrArg (BitVec.getLsbD · 0) (lampWord_setWord s.cc l (adjustLamp m))).trans
      (getLsbD_setField_apart _ _ _ _ _ (by decide) (by decide))
  unfold captureLamp
  rw [takeWord_eq]
  dsimp only
  rw [enable]
  refine ⟨fun same => ?_, fun now before => ?_, fun now before => ?_⟩
  · rw [same]
    cases s.cc.lampEnable l <;> rfl
  · rw [now, before]
    rfl
  · rw [now, before]
    rfl

/-- The byte time of a lamp link whose setup is taken. -/
theorem lampByteTicks_taken (s : State) (l : Fin 2) (m : Word) :
    (takenWith s (lampWordOf l) m (adjustLamp m)).cc.lampByteTicks l = 10 * 4 ^ (field m 20 2 + 1) * (field m 24 8 + 1) := by
  have word : (takenWith s (lampWordOf l) m (adjustLamp m)).cc.lampWord l = adjustLamp m := lampWord_setWord s.cc l (adjustLamp m)
  unfold Shadow.lampByteTicks
  rw [word]
  unfold adjustLamp clampField
  rw [field_setField_apart _ _ _ _ _ _ (by decide) (by decide), field_setField_apart _ _ _ _ _ _ (by decide) (by decide)]

/-- Settles O38, by the table of the word. -/
theorem lampZoneAndFixtureWordsAreAdjusted : Obligations.LampZoneAndFixtureWordsAreAdjusted := by
  unfold Obligations.LampZoneAndFixtureWordsAreAdjusted
  refine ⟨fun s l m => ?_, fun s z i m => ?_, fun s f i m => ?_, fun s f => ?_⟩
  · obtain ⟨outside, value⟩ := clampField_spec m 8 10 24 512 (by decide) (by decide) (by decide)
    refine ⟨adjustLamp m, outside, value, ?_⟩
    obtain ⟨same, set, clear⟩ := captureLamp_eq s l m
    have ticks := lampByteTicks_taken s l m
    rw [captureMerged_lamp]
    dsimp only
    refine ⟨same, fun changed => ?_⟩
    cases now : m.getLsbD 0 with
    | true =>
      have before : s.cc.lampEnable l = false := by rw [now] at changed; simpa using changed.symm
      rw [set now before]
      by_cases empty : (s.lamps[l]).shift = .empty
      · rw [lampEnabled_empty (takenWith s (lampWordOf l) m (adjustLamp m)) l empty]
        refine ⟨fun _ _ => ?_, fun _ full => absurd empty full, fun h => absurd h (by decide), fun j other => put_ne _ _ _ _ other, rfl⟩
        rw [← ticks]
        exact put_same ..
      · rw [lampEnabled_busy (takenWith s (lampWordOf l) m (adjustLamp m)) l empty]
        exact ⟨fun _ h => absurd h empty, fun _ _ => rfl, fun h => absurd h (by decide), fun _ _ => rfl, rfl⟩
    | false =>
      have before : s.cc.lampEnable l = true := by rw [now] at changed; simpa using changed.symm
      rw [clear now before]
      exact ⟨fun h => absurd h (by decide), fun h => absurd h (by decide), fun _ => put_same .., fun j other => put_ne _ _ _ _ other, rfl⟩
  · refine ⟨adjustZone s.cc i m, takeWord_eq .., ?_⟩
    match i with
    | 0 => exact ⟨fun _ => adjustClip_spec s.cc m, fun h => absurd h (by decide), fun h => absurd h (by decide)⟩
    | 1 => exact ⟨fun h => absurd h (by decide), fun _ => adjustPair_spec m 9 _ (by decide), fun h => absurd h (by decide)⟩
    | 2 => exact ⟨fun h => absurd h (by decide), fun _ => adjustPair_spec m 12 _ (by decide), fun h => absurd h (by decide)⟩
    | 3 => exact ⟨fun h => absurd h (by decide), fun h => absurd h (by decide), fun _ => rfl⟩
  · refine ⟨adjustFixture i m, takeWord_eq .., fun first => ?_, adjustFixture_other i m⟩
    obtain rfl : i = 0 := Fin.ext first
    exact adjustFixture_spec m
  · dsimp only
    unfold entryWritten
    by_cases fits : fixSlot s.cc.fixtures[f] + 6 ≤ s.cc.lampSlots (fixLink s.cc.fixtures[f])
    · rw [if_pos (by unfold placed; simpa using fits), if_pos fits, withReports_nil]
    · rw [if_neg (by unfold placed; simpa using fits), if_neg fits]
      rfl

end Sys2Proof.Machine
end

section
/-! The Reference Unit: pulses, the loss of the reference, frame events (O48 to O50). -/

namespace Sys2Proof.Machine

/-! ### Pulses (R77, R78, R81, R82) -/

theorem schedInsert_perm (l : List Sched) (e : Sched) : (schedInsert l e).Perm (e :: l) := by
  induction l with
  | nil => exact .refl _
  | cons x xs ih =>
    unfold schedInsert
    split
    · exact .refl _
    · exact (ih.cons x).trans (.swap e x xs)

theorem intervalGood_iff (c : Shadow) (d : Nat) : intervalGood c d = true ↔ c.period ≤ d + c.tolerance ∧ d ≤ c.period + c.tolerance := by
  simp [intervalGood]

/-- A pulse in EXTERNAL mode whose predecessor is known. -/
theorem execReferencePulse_interval (tick : Nat) (s : State) (t0 : Nat) (external : s.cc.modeInternal = false) (last : s.ru.lastPulse = some t0) :
    execReferencePulse tick s
      = .next (takeInterval { s with now := max s.now tick, ru := { s.ru with lastPulse := some (max s.now tick) } } (max s.now tick)
          (max s.now tick - t0)) := by
  unfold execReferencePulse takePulse
  dsimp only
  rw [if_neg (by rw [external]; decide)]
  show Host.Outcome.next (match s.ru.lastPulse with | none => _ | some t0 => _) = _
  rw [last]
  rfl

/-- Settles O48, by mode, predecessor, interval and lock. -/
theorem pulsesMeasureAndLock : Obligations.PulsesMeasureAndLock := by
  unfold Obligations.PulsesMeasureAndLock
  intro tick s
  dsimp only
  refine ⟨fun internal => ?_, fun external first => ?_, fun t0 external last _ => ?_⟩
  · show execReferencePulse tick s = _
    unfold execReferencePulse
    dsimp only
    rw [if_pos internal]
    rfl
  · show execReferencePulse tick s = _
    unfold execReferencePulse takePulse
    dsimp only
    rw [if_neg (by rw [external]; decide)]
    show Host.Outcome.next (match s.ru.lastPulse with | none => _ | some t0 => _) = _
    rw [first]
    rfl
  · have pulse : exec (.referencePulse tick) s = _ := execReferencePulse_interval tick s t0 external last
    rw [pulse, ← intervalGood_iff]
    unfold takeInterval
    refine ⟨fun bad open_ => ?_, fun good open_ below => ?_, fun good locked => ?_, fun good open_ reached => ?_⟩
    · rw [if_neg open_, if_neg bad]
      rfl
    · rw [if_neg open_, if_pos good]
      unfold countGood
      rw [if_neg (Nat.not_le.mpr below)]
      rfl
    · rw [if_pos locked, if_pos good]
      exact ⟨_, schedInsert_perm _ _, rfl⟩
    · rw [if_neg open_, if_pos good]
      unfold countGood
      rw [if_pos reached]
      unfold enterLocked
      dsimp only
      rw [reportRef_eq]
      exact ⟨_, schedInsert_perm _ _, rfl⟩

/-! ### The loss of the reference (R82, R83, R88) -/

/-- HOLDOVER entered from LOCKED. -/
theorem enterHoldover_eq (s : State) (cause : RefCause) (locked : s.ru.lock = .locked) :
    ∃ (x draws : Nat) (schedule : List Sched),
      (schedule.Perm (⟨x, true⟩ :: s.ru.schedule)
        ∧ (∀ e, s.ru.schedule.getLast? = some e → x = e.time + s.ru.coast ∧ draws = s.draws)
        ∧ (∀ f, s.ru.schedule = [] → s.ru.lastFrame = some f → x = f + s.ru.coast ∧ draws = s.draws)
        ∧ (s.ru.schedule = [] → s.ru.lastFrame = none → s.now ≤ x))
      ∧ enterHoldover s cause = withReports
          { s with draws := draws, ru := { s.ru with
              lock := .holdover, good := 0, held := 0, watch := none, fault := true, schedule := schedule } }
          [refReport .holdover .locked (refCauseCode cause) true] := by
  unfold enterHoldover
  dsimp only
  cases last : s.ru.schedule.getLast? with
  | some e =>
    have filled : s.ru.schedule ≠ [] := by
      rintro empty
      rw [empty] at last
      exact absurd last (by simp)
    refine ⟨e.time + s.ru.coast, s.draws, _, ⟨schedInsert_perm _ _, fun e' h => ?_, fun _ h => absurd h filled, fun h => absurd h filled⟩, ?_⟩
    · rw [Option.some.inj h]
      exact ⟨rfl, rfl⟩
    · dsimp only
      rw [reportRef_eq, locked]
      rfl
  | none =>
    refine ⟨lastFramePlus s s.ru.coast, drawnAfter s, _,
      ⟨schedInsert_perm _ _, fun _ h => absurd h (by simp), fun f _ h => ?_, fun _ h => ?_⟩, ?_⟩
    · rw [lastFramePlus, drawnAfter, h]
      exact ⟨rfl, rfl⟩
    · rw [lastFramePlus, h]
      exact Nat.le_add_right _ _
    · dsimp only
      rw [reportRef_eq, locked]
      rfl

/-- Settles O49, by the watch's expiry and the bad interval. -/
theorem losingTheReferenceEntersHoldover : Obligations.LosingTheReferenceEntersHoldover := by
  unfold Obligations.LosingTheReferenceEntersHoldover
  intro s law locked
  dsimp only
  obtain ⟨-, -, -, -, -, internal, -⟩ := law
  have external : s.cc.modeInternal = false := by
    by_contra h
    exact absurd (locked.symm.trans (internal.mpr (by simpa using h))) (by decide)
  refine ⟨fun w watch => ?_, fun tick t0 last _ bad => ?_, fun u stopped => ?_⟩
  · obtain ⟨x, draws, schedule, placed, eq⟩ := enterHoldover_eq (atTime s w) .pulseMissing locked
    refine ⟨x, draws, schedule, placed, ?_⟩
    show execPulseMissing s = _
    unfold execPulseMissing
    rw [watch]
    dsimp only
    rw [if_pos locked, eq]
    rfl
  · obtain ⟨x, draws, schedule, placed, eq⟩ := enterHoldover_eq
      { s with now := max s.now tick, ru := { s.ru with lastPulse := some (max s.now tick) } } .intervalBad locked
    refine ⟨x, draws, schedule, placed, ?_⟩
    have pulse : exec (.referencePulse tick) s = _ := execReferencePulse_interval tick s t0 external last
    rw [pulse]
    unfold takeInterval
    rw [if_pos locked, if_neg, eq]
    · rfl
    · rw [intervalGood_iff]
      rintro ⟨above, below⟩
      dsimp only at above below
      omega
  · show execPulseMissing u = _
    unfold execPulseMissing
    rw [stopped]

/-! ### Frame events (R79, R80, R83, R193) -/

theorem takeReport_frames (s : State) (r : Report) : (takeReport s r).rw.frames = s.rw.frames := by
  rcases takeReport_cases s r with h | h | ⟨_, _, _, _, h⟩
  · rw [h]
  · rw [h]
  · rw [h, rwRaise_spec]

theorem takeAllReports_frames (s : State) : (takeAllReports s).rw.frames = s.rw.frames := by
  have fold : ∀ (l : List Report) (s : State), (l.foldl takeReport s).rw.frames = s.rw.frames := by
    intro l
    induction l with
    | nil => exact fun _ => rfl
    | cons r l ih => exact fun s => (ih _).trans (takeReport_frames s r)
  exact fold ..

theorem takeAllReports_reports (s : State) : (takeAllReports s).rw.reports = [] := by
  have fold : ∀ (l : List Report) (s : State), (l.foldl takeReport s).rw.reports = s.rw.reports := by
    intro l
    induction l with
    | nil => exact fun _ => rfl
    | cons r l ih => exact fun s => (ih _).trans (takeReport_reports s r)
  exact fold ..

/-- Taking every report takes the first as REPORT_TAKEN does, and then the others. -/
theorem takeAllReports_cons (s : State) (r : Report) (rest : List Report) (h : s.rw.reports = r :: rest) :
    takeAllReports s = takeAllReports (takeReport { s with rw := { s.rw with reports := rest } } r) := by
  unfold takeAllReports
  rw [takeReport_reports, h, List.foldl_cons]
  exact congrArg (List.foldl takeReport · rest) (takeReport_with_reports { s with rw := { s.rw with reports := rest } } r [])

theorem execReportTaken_cons (s : State) (r : Report) (rest : List Report) (h : s.rw.reports = r :: rest) :
    execReportTaken r.kind.maker s = .next (takeReport { s with rw := { s.rw with reports := rest } } r) := by
  have mine : madeBy r.kind.maker r = true := by simp [madeBy]
  unfold execReportTaken
  rw [h, List.find?_cons_of_pos mine, List.eraseP_cons_of_pos mine]

theorem dropsEvent_iff (s : State) (t : Nat) : dropsEvent s t = true ↔ ∃ f, s.ru.lastFrame = some f ∧ t < f + s.cc.period / 4 := by
  unfold dropsEvent
  cases s.ru.lastFrame <;> simp

/-- In HOLDOVER the count rises, and the limit enters LOST with a report (R83). -/
theorem holdoverCount_eq (s : State) :
    let limit := s.ru.lock = .holdover ∧ s.cc.holdoverLimit ≤ s.ru.held + 1
    holdoverCount s = { s with
      ru := { s.ru with
        lock := if limit then .lost else s.ru.lock
        held := if s.ru.lock = .holdover then s.ru.held + 1 else s.ru.held }
      rw := { s.rw with reports := s.rw.reports ++ if limit then [refReport .lost .holdover 3 s.ru.fault] else [] } } := by
  unfold holdoverCount
  dsimp only
  by_cases holding : s.ru.lock = .holdover
  · rw [if_pos holding, if_pos holding]
    by_cases reached : s.cc.holdoverLimit ≤ s.ru.held + 1
    · rw [if_pos reached, if_pos ⟨holding, reached⟩, if_pos ⟨holding, reached⟩, reportRef_eq]
      rfl
    · rw [if_neg reached, if_neg fun h => reached h.2, if_neg fun h => reached h.2, List.append_nil]
      rfl
  · rw [if_neg holding, if_neg holding, if_neg fun h => holding h.1, if_neg fun h => holding h.1, List.append_nil]

/-- Settles O50, by the frame event's time being dropped or produced. -/
theorem frameEventsAreProducedOrDropped : Obligations.FrameEventsAreProducedOrDropped := by
  unfold Obligations.FrameEventsAreProducedOrDropped
  refine ⟨fun s empty => ?_, fun s => ⟨takeAllReports_reports s, takeAllReports_only s⟩, fun s none => ?_, fun s r rest first => ?_,
    fun s e rest next => ?_⟩
  · show execFrameEvent s = _
    unfold execFrameEvent
    rw [empty]
  · unfold takeAllReports
    rw [none]
    rw [List.foldl_nil, ← none]
  · exact ⟨_, execReportTaken_cons s r rest first, takeReport_reports _ r, takeAllReports_cons s r rest first⟩
  · have event : exec .frameEvent s = .next (reachScheduled s e rest) := by
      show execFrameEvent s = _
      unfold execFrameEvent
      rw [next]
    have only := takeAllReports_only s
    have frames := takeAllReports_frames s
    have reports := takeAllReports_reports s
    dsimp only
    rw [event]
    unfold reachScheduled
    rw [only]
    generalize (takeAllReports s).rw = ring at frames reports ⊢
    dsimp only [setRu, atTime]
    simp only [dropsEvent_iff]
    refine ⟨fun early => ?_, fun late => ?_⟩
    · rw [if_pos early]
      by_cases free : e.freeRun = true
      · rw [if_pos free, if_pos free]
        exact ⟨_, schedInsert_perm _ _, rfl⟩
      · rw [if_neg free, if_neg free]
        exact ⟨_, .refl _, rfl⟩
    · rw [if_neg late]
      unfold produceFrame
      rw [holdoverCount_eq]
      dsimp only [giveFrame, setRu]
      rw [frames, reports, List.nil_append]
      by_cases free : e.freeRun = true
      · rw [if_pos free, if_pos free]
        exact ⟨_, schedInsert_perm _ _, rfl⟩
      · rw [if_neg free, if_neg free]
        exact ⟨_, .refl _, rfl⟩

end Sys2Proof.Machine
end

section
/-! Packets and the notices of the Scan-Out Engine (O53, O54). -/

namespace Sys2Proof.Machine

/-! ### What the fetch and the send depend on -/

theorem anyNeedsFetch_congr {s t : State} (h : t.so.send = s.so.send) : anyNeedsFetch t = anyNeedsFetch s := by
  unfold anyNeedsFetch linkNeedsFetch partOf
  rw [h]

theorem partOf_send {s : State} {d : Send} (h : s.so.send = some d) (l : Fin 24) : partOf s l = d.parts[l] := by
  unfold partOf
  rw [h]

/-- Raising the claim changes the claim alone, and no link's need. -/
theorem soRaise_claim (s : State) : (soRaise s).so.claim = (s.so.claim || anyNeedsFetch (soRaise s)) := by
  rw [soRaise_spec]
  rfl

/-! ### Notices (R103, R106, R115) -/

theorem discardRead_own (l : Fin 24) (data : List Byte) (x : Bool) : discardRead (.segmentRead l data x) l = .segmentRead l data true := by
  unfold discardRead
  simp

theorem discardRead_other {c : Channel} {l : Fin 24} (h : ∀ data x, c ≠ .segmentRead l data x) : discardRead c l = c := by
  unfold discardRead
  split
  · next l' data d =>
    have other : l' ≠ l := fun e => h data d (by rw [e])
    simp [other]
  · rfl

/-- The link's own part of a leave, before its claim is withdrawn. -/
def linkLeft (s : State) (l : Fin 24) (d : Send) : State :=
  { s with
    channel := discardRead s.channel l
    tx := put s.tx l { s.tx[l] with stage := none }
    so := { s.so with
      send := some { d with parts := put d.parts l none }
      links := put s.so.links l { s.so.links[l] with primed := false, starved := false } } }

theorem leaveSend_none (s : State) (l : Fin 24) (h : partOf s l = none) : leaveSend s l = s := by
  unfold leaveSend
  rw [h]

theorem leaveSend_part (s : State) (l : Fin 24) (d : Send) (p : Part) (send : s.so.send = some d) (part : d.parts[l] = some p) :
    leaveSend s l = if anyNeedsFetch (linkLeft s l d) then linkLeft s l d else soWithdraw (linkLeft s l d) := by
  have taken : setPart s l none = { s with so := { s.so with send := some { d with parts := put d.parts l none } } } := by
    rw [setPart_spec, send]
    rfl
  unfold leaveSend
  rw [partOf_send send, part, taken]
  rfl

/-- Settles O53, by the three notices. -/
theorem noticesReachTheScanOutEngine : Obligations.NoticesReachTheScanOutEngine := by
  unfold Obligations.NoticesReachTheScanOutEngine
  intro s
  refine ⟨fun none => ?_, fun none => ?_, fun none => ?_, fun l rest notice => ?_, fun g rest notice => ?_, fun l rest notice absent => ?_,
    fun l rest d p notice send part => ?_⟩
  · show execLeaveNotice s = _
    unfold execLeaveNotice
    rw [none]
  · show execRecoverNotice s = _
    unfold execRecoverNotice
    rw [none]
  · show execWallGainNotice s = _
    unfold execWallGainNotice
    rw [none]
  · show execRecoverNotice s = _
    unfold execRecoverNotice
    rw [notice]
    rfl
  · show execWallGainNotice s = _
    unfold execWallGainNotice
    rw [notice]
    dsimp only
    by_cases same : g = s.so.gain
    · rw [if_pos same, same]
      simp
    · rw [if_neg same]
      simp [raiseResend, same]
  · show execLeaveNotice s = _
    unfold execLeaveNotice
    rw [notice]
    dsimp only
    rw [leaveSend_none]
    exact absent
  · have left : linkLeft { s with so := { s.so with leaves := rest } } l d = { s with
        channel := discardRead s.channel l
        tx := put s.tx l { s.tx[l] with stage := none }
        so := { s.so with
          leaves := rest, send := some { d with parts := put d.parts l none }
          links := put s.so.links l { s.so.links[l] with primed := false, starved := false } } } := rfl
    have leave : exec .leaveNotice s = .next (leaveSend { s with so := { s.so with leaves := rest } } l) := by
      show execLeaveNotice s = _
      unfold execLeaveNotice
      rw [notice]
    have own (data : List Byte) (x : Bool) (h : s.channel = .segmentRead l data x) : discardRead s.channel l = .segmentRead l data true := by
      rw [h]
      exact discardRead_own ..
    rw [leave, leaveSend_part { s with so := { s.so with leaves := rest } } l d p send part, left]
    generalize hv : ({ s with
        channel := discardRead s.channel l
        tx := put s.tx l { s.tx[l] with stage := none }
        so := { s.so with
          leaves := rest, send := some { d with parts := put d.parts l none }
          links := put s.so.links l { s.so.links[l] with primed := false, starved := false } } } : State) = v
    by_cases needed : anyNeedsFetch v = true
    · refine ⟨v, by rw [if_pos needed], ?_⟩
      rw [needed, Bool.and_true, if_neg fun h => absurd h.2 (by decide), ← hv]
      exact ⟨rfl, rfl, own, discardRead_other, rfl⟩
    · have idle : anyNeedsFetch (soWithdraw v) = false :=
        (anyNeedsFetch_congr (by rw [soWithdraw_spec])).trans ((Bool.not_eq_true _).mp needed)
      refine ⟨soWithdraw v, by rw [if_neg needed], ?_⟩
      rw [idle, Bool.and_false, soWithdraw_spec, ← hv]
      exact ⟨rfl, by simp only [and_true], own, discardRead_other, rfl⟩

/-! ### Packet bytes (R109) -/

/-- A group of four taken out of the groups of four that a list gives. -/
theorem take_drop_flatMap {α β : Type} (f : α → List β) (four : ∀ x, (f x).length = 4) :
    ∀ (l : List α) (i : Nat) (h : i < l.length), ((l.flatMap f).drop (4 * i)).take 4 = f l[i] := by
  intro l
  induction l with
  | nil => intro i h; exact absurd h (by simp)
  | cons x xs ih =>
    intro i h
    rw [List.flatMap_cons]
    cases i with
    | zero => rw [Nat.mul_zero, List.drop_zero, List.take_left' (four x)]; rfl
    | succ i =>
      rw [show 4 * (i + 1) = (f x).length + 4 * i by rw [four x]; omega, List.drop_length_add_append]
      exact ih i (Nat.lt_of_succ_lt_succ h)

theorem length_flatMap_four {α β : Type} (f : α → List β) (four : ∀ x, (f x).length = 4) (l : List α) :
    (l.flatMap f).length = 4 * l.length := by
  induction l with
  | nil => rfl
  | cons x xs ih => rw [List.flatMap_cons, List.length_append, four x, ih, List.length_cons]; omega

/-- The packet bytes of the table of section 10.8.6. -/
theorem linePacket_bytes (k : LinePacket) :
    (Packet.line k).bytes.length = 8 + 4 * k.pixels.length
      ∧ (Packet.line k).bytes.take 8 =
          [1, BitVec.ofNat 8 k.idx, BitVec.ofNat 8 (k.line / 256), BitVec.ofNat 8 k.line, k.tag, 0, 0, 0]
      ∧ ∀ i (h : i < k.pixels.length), ((Packet.line k).bytes.drop (8 + 4 * i)).take 4 =
          [(k.pixels[i]).extractLsb' 24 8, (k.pixels[i]).extractLsb' 16 8, (k.pixels[i]).extractLsb' 8 8,
            (k.pixels[i]).extractLsb' 0 8] := by
  have four : ∀ w : Word, (bytesHighFirst w).length = 4 := fun _ => rfl
  unfold Packet.bytes
  refine ⟨?_, rfl, fun i h => ?_⟩
  · rw [List.length_append, length_flatMap_four _ four]
    rfl
  · have header : ∀ l : List Byte, ([1, BitVec.ofNat 8 k.idx, BitVec.ofNat 8 (k.line / 256), BitVec.ofNat 8 k.line, k.tag, 0, 0, 0]
        ++ l).drop (8 + 4 * i) = l.drop (4 * i) := fun l => List.drop_drop.symm
    dsimp only
    rw [header]
    exact take_drop_flatMap _ four k.pixels i h

/-! ### The line in the assembly buffer (R105, R107, R112) -/

theorem lastLine_iff (p : Part) (k : LinePacket) :
    p.lastLine k = true ↔ ∃ tile, p.tiles.getLast? = some tile ∧ k.idx = tile.idx ∧ k.line + 1 = p.th := by
  unfold Part.lastLine
  cases p.tiles.getLast? <;> simp

theorem lineComplete_iff (p : Part) : p.lineComplete = true ↔ p.tileAt < p.tiles.length ∧ p.tw ≤ p.assembly.length := by
  simp [Part.lineComplete]

theorem packet_of_tile {p : Part} {tile : TileRec} (tag : Tag) (h : p.tiles[p.tileAt]? = some tile) :
    p.packet tag = ⟨tile.idx, p.line, tag, p.assembly⟩ := by
  unfold Part.packet Part.tile
  rw [List.getD_eq_getElem?_getD, h]
  rfl

theorem placeLine_incomplete (s : State) (l : Fin 24) (h : ∀ p, partOf s l = some p → p.lineComplete = false) : placeLine s l = s := by
  rcases placeLine_cases s l with e | ⟨d, p, send, part, complete, -⟩
  · exact e
  · rw [h p ((partOf_send send l).trans part)] at complete
    exact absurd complete (by decide)

theorem placeLine_complete (s : State) (l : Fin 24) (d : Send) (p : Part) (send : s.so.send = some d) (part : d.parts[l] = some p)
    (complete : p.lineComplete = true) (stage : (s.tx[l]).stage = none) :
    placeLine s l = { s with
      tx := put s.tx l { s.tx[l] with stage := some (p.packet d.tag) }
      so := { s.so with
        links := put s.so.links l { s.so.links[l] with primed := true, starved := false }
        send := some { d with parts := put d.parts l (some p.advance) } } } := by
  unfold placeLine
  rw [send]
  dsimp only
  rw [part]
  dsimp only
  rw [if_pos ⟨complete, by rw [stage]; rfl⟩, setPart_spec]
  show ({ s with tx := _, so := { s.so with links := _, send := Option.map _ s.so.send } } : State) = _
  rw [send]
  rfl

theorem placeLine_so_claim (s : State) (l : Fin 24) : (placeLine s l).so.claim = s.so.claim := by
  rcases placeLine_cases s l with e | ⟨d, p, -, -, -, -, e⟩ <;> rw [e]

/-! ### The packet that ends and the one that follows (R110 to R113) -/

/-- A finished packet changes the send alone, and that only as the last line of its link's part (R112). -/
theorem finishPacket_eq (s : State) (l : Fin 24) (q : Packet) :
    (∀ d p k, s.so.send = some d → d.parts[l] = some p → q = .line k → k.tag = d.tag → p.lastLine k = true →
        (finishPacket s l q).so.send = some { d with parts := put d.parts l (some { p with complete := true }) })
    ∧ ((∀ d p k, s.so.send = some d → d.parts[l] = some p → q = .line k → ¬ (k.tag = d.tag ∧ p.lastLine k = true)) →
        (finishPacket s l q).so.send = s.so.send)
    ∧ finishPacket s l q = { s with so := { s.so with send := (finishPacket s l q).so.send } } := by
  unfold finishPacket
  cases q with
  | mark m => exact ⟨fun _ _ _ _ _ h => absurd h (by simp), fun _ => rfl, rfl⟩
  | idle => exact ⟨fun _ _ _ _ _ h => absurd h (by simp), fun _ => rfl, rfl⟩
  | line k =>
    dsimp only
    cases send : s.so.send with
    | none =>
      have same : finishLine s l k = s := by
        unfold finishLine
        rw [send]
      rw [same]
      exact ⟨fun _ _ _ h => absurd h (by simp), fun _ => send, rfl⟩
    | some d =>
      by_cases last : ∃ p, d.parts[l] = some p ∧ k.tag = d.tag ∧ p.lastLine k = true
      · obtain ⟨p, part, last⟩ := last
        have done : finishLine s l k = { s with so := { s.so with
            send := some { d with parts := put d.parts l (some { p with complete := true }) } } } := by
          unfold finishLine
          rw [send]
          dsimp only
          rw [part]
          dsimp only
          rw [if_pos last, setPart_spec, send]
          rfl
        rw [done]
        refine ⟨fun d' p' k' h hp _ _ _ => ?_, fun no => absurd last (no d p k rfl part rfl), rfl⟩
        obtain rfl := Option.some.inj h
        rw [part] at hp
        obtain rfl := Option.some.inj hp
        rfl
      · have same : finishLine s l k = s := by
          unfold finishLine
          rw [send]
          dsimp only
          split
          · rfl
          · next p part => rw [if_neg fun h => last ⟨p, part, h⟩]
        rw [same]
        refine ⟨fun d' p' k' h hp hk tag line => absurd ⟨p', ?_, ?_, ?_⟩ last, fun _ => send, rfl⟩
        · rw [Option.some.inj h]
          exact hp
        · rw [Packet.line.inj hk, Option.some.inj h]
          exact tag
        · rw [Packet.line.inj hk]
          exact line

theorem nextPacket_disabled (s : State) (l : Fin 24) (h : s.cc.linkEnable l = false) :
    nextPacket s l = { s with tx := put s.tx l { s.tx[l] with shift := none } } := by
  unfold nextPacket
  rw [h]
  rfl

theorem nextPacket_mark (s : State) (l : Fin 24) (m : Mark) (h : s.cc.linkEnable l = true) (mark : (s.tx[l]).mark = some m) :
    nextPacket s l = { s with tx := put s.tx l { s.tx[l] with
      shift := some ⟨.mark m, s.now + 8 * s.cc.linkByteTicks l⟩, mark := none } } := by
  unfold nextPacket
  rw [h]
  dsimp only
  rw [mark]
  dsimp only [beginPacket, setTx, Bool.not_true, Bool.false_eq_true]
  rw [if_neg (by decide), put_same, put_put]
  rfl

/-- A staged LINE that begins. -/
def lineBegun (s : State) (l : Fin 24) (k : LinePacket) : State :=
  { s with tx := put s.tx l { s.tx[l] with
      shift := some ⟨.line k, s.now + (8 + 4 * k.pixels.length) * s.cc.linkByteTicks l⟩, stage := none } }

theorem nextPacket_stage (s : State) (l : Fin 24) (k : LinePacket) (h : s.cc.linkEnable l = true) (mark : (s.tx[l]).mark = none)
    (stage : (s.tx[l]).stage = some k) : nextPacket s l = soRaise (placeLine (lineBegun s l k) l) := by
  have begun : beginPacket (setTx s l { s.tx[l] with stage := none }) l (.line k) = lineBegun s l k := by
    dsimp only [beginPacket, setTx, lineBegun]
    rw [put_same, put_put]
    rfl
  rw [← begun]
  unfold nextPacket
  rw [h]
  dsimp only
  rw [if_neg (by decide), mark, stage]

theorem nextPacket_idle (s : State) (l : Fin 24) (h : s.cc.linkEnable l = true) (mark : (s.tx[l]).mark = none)
    (stage : (s.tx[l]).stage = none) : nextPacket s l = beginIdle s l := by
  unfold nextPacket
  rw [h]
  dsimp only
  rw [if_neg (by decide), mark, stage]

/-- Settles O54: the bytes, the line laws, and the packet that follows by enable, mark and stage. -/
theorem packetsFollowOneAnother : Obligations.PacketsFollowOneAnother := by
  unfold Obligations.PacketsFollowOneAnother
  refine ⟨⟨linePacket_bytes, fun m => ?_, rfl⟩, lastLine_iff, fun p => ⟨lineComplete_iff p, fun _ tag => packet_of_tile tag, fun h => ?_, fun h => ?_⟩,
    fun l s => ⟨fun empty => ?_, fun x shifting => ?_⟩⟩
  · rfl
  · unfold Part.advance
    rw [if_pos h]
  · unfold Part.advance
    rw [if_neg (Nat.not_lt.mpr h)]
  · show execPacketFinish l s = _
    unfold execPacketFinish
    rw [empty]
  · have finish : exec (.packetFinish l) s = .next (nextPacket (finishPacket (atTime s x.ends) l x.packet) l) := by
      show execPacketFinish l s = _
      unfold execPacketFinish
      rw [shifting]
    obtain ⟨last, other, only⟩ := finishPacket_eq (atTime s x.ends) l x.packet
    refine ⟨finishPacket (atTime s x.ends) l x.packet, _, finish, last, other, only, ?_⟩
    generalize finishPacket (atTime s x.ends) l x.packet = u at only ⊢
    have tx : u.tx = s.tx := by rw [only]; rfl
    have cc : u.cc = s.cc := by rw [only]; rfl
    have links : u.so.links = s.so.links := by rw [only]; rfl
    have claim : u.so.claim = s.so.claim := by rw [only]; rfl
    dsimp only
    rw [← tx, ← cc, ← links, ← claim]
    refine ⟨nextPacket_disabled u l, fun m enabled mark => nextPacket_mark u l m enabled mark, fun k enabled mark stage => ?_,
      fun enabled mark stage => ?_⟩
    · rw [nextPacket_stage u l k enabled mark stage]
      refine ⟨?_, fun incomplete => ?_, fun d p send part complete => ?_⟩
      · exact (soRaise_claim _).trans (congrArg (· || _) (placeLine_so_claim _ l))
      · rw [placeLine_incomplete (lineBegun u l k) l incomplete, soRaise_spec]
        rfl
      · rw [placeLine_complete (lineBegun u l k) l d p send part complete (congrArg Transmitter.stage (put_same ..)), soRaise_spec]
        dsimp only [lineBegun]
        rw [put_same, put_put]
    · rw [nextPacket_idle u l enabled mark stage]
      obtain ⟨r, starves, not, eq⟩ := beginIdle_eq u l
      rw [eq]
      refine ⟨fun j => ?_, rfl⟩
      rcases eq_or_ne j l with rfl | other
      · refine (put_same ..).trans ?_
        split
        · next h => exact starves ⟨stage, h.2.1, h.2.2.1, h.2.2.2⟩
        · next h => exact not fun st => h ⟨rfl, st.2.1, st.2.2.1, st.2.2.2⟩
      · exact (put_ne _ _ _ _ other).trans (if_neg fun h => other h.1).symm

end Sys2Proof.Machine
end

section
/-! Folds over the links; the start of a send (O52). -/

namespace Sys2Proof.Machine

/-! ### Folds that visit each element once -/

/-- A fold whose step at an element not visited before leads from one stage to the next. -/
theorem foldl_stages {α β : Type} (f : β → α → β) (stage : List α → β)
    (step : ∀ done x, x ∉ done → f (stage done) x = stage (done ++ [x])) :
    ∀ (l done : List α), (done ++ l).Nodup → l.foldl f (stage done) = stage (done ++ l) := by
  intro l
  induction l with
  | nil => intro done _; rw [List.append_nil]; rfl
  | cons x xs ih =>
    intro done once
    have fresh : x ∉ done := fun h => (List.nodup_append.mp once).2.2 x h x List.mem_cons_self rfl
    rw [List.foldl_cons, step done x fresh, ih (done ++ [x]) (by rwa [List.append_assoc]), List.append_assoc]
    rfl

/-- A vector whose elements in a list are new. -/
@[irreducible] def renewed {α : Type} {n : Nat} (old : Vector α n) (new : Fin n → α) (done : List (Fin n)) : Vector α n :=
  tabulate fun i => if i ∈ done then new i else old[i]

theorem renewed_nil {α : Type} {n : Nat} (old : Vector α n) (new : Fin n → α) : renewed old new [] = old := by
  refine Vector.ext fun i h => ?_
  have e : (renewed old new [])[(⟨i, h⟩ : Fin n)] = old[(⟨i, h⟩ : Fin n)] := by
    rw [renewed, getElem_tabulate_fin, if_neg (by simp)]
  exact e

theorem renewed_fresh {α : Type} {n : Nat} (old : Vector α n) (new : Fin n → α) {done : List (Fin n)} {i : Fin n} (h : i ∉ done) :
    (renewed old new done)[i] = old[i] := by
  rw [renewed, getElem_tabulate_fin, if_neg h]

theorem renewed_mem {α : Type} {n : Nat} (old : Vector α n) (new : Fin n → α) {done : List (Fin n)} {i : Fin n} (h : i ∈ done) :
    (renewed old new done)[i] = new i := by
  rw [renewed, getElem_tabulate_fin, if_pos h]

theorem put_renewed {α : Type} {n : Nat} (old : Vector α n) (new : Fin n → α) (done : List (Fin n)) (i : Fin n) :
    put (renewed old new done) i (new i) = renewed old new (done ++ [i]) := by
  have all (k : Fin n) : (put (renewed old new done) i (new i))[k] = (renewed old new (done ++ [i]))[k] := by
    rcases eq_or_ne k i with rfl | other
    · rw [put_same, renewed, getElem_tabulate_fin, if_pos (by simp)]
    · rw [put_ne _ _ _ _ other, renewed, renewed, getElem_tabulate_fin, getElem_tabulate_fin]
      simp [other]
  exact Vector.ext fun j h => all ⟨j, h⟩

/-! ### Joins (R126) -/

/-- The record of a link after the join of a send. -/
def joinedRecord (r : LinkRecord) : LinkRecord := if r.state = .recover then { r with state := .active, miss := 0 } else r

/-- The note of a link's join at the event of a count (log entry 29). -/
def joinNote (frames : List FrameNotice) (count : Word) (r : LinkRecord) (note : Option Word) : Option Word :=
  if r.state = .recover then (if count ∈ frames.map (·.count) then some count else none) else note

/-- The report of a link's join. -/
def joinReports (l : Fin 24) (r : LinkRecord) : List Report :=
  if r.state = .recover then [linkReport l .recover { r with state := .active, miss := 0 } .joined] else []

theorem joinLink_eq (count : Word) (s : State) (l : Fin 24) :
    joinLink count s l = withReports
      { s with lsv := { s.lsv with
          links := put s.lsv.links l (joinedRecord s.lsv.links[l])
          joined := put s.lsv.joined l (joinNote s.lsv.frames count s.lsv.links[l] s.lsv.joined[l]) } }
      (joinReports l s.lsv.links[l]) := by
  have noted : s.lsv.frames.any (fun f => f.count == count) = true ↔ count ∈ s.lsv.frames.map (·.count) := by simp
  unfold joinLink joinedRecord joinNote joinReports
  by_cases h : (s.lsv.links[l]).state = .recover
  · have state : ((noteJoin s count l).lsv.links[l]).state = .recover := h
    simp only [if_pos h, ← noted]
    rw [changeLink_eq, state, if_neg (by simp), if_neg (by simp), List.append_nil, List.append_nil]
    rfl
  · simp only [if_neg h]
    rw [put_self, put_self, withReports_nil]

/-- The links of a list joined. -/
def joinStage (count : Word) (s : State) (done : List (Fin 24)) : State :=
  withReports
    { s with lsv := { s.lsv with
        links := renewed s.lsv.links (fun l => joinedRecord s.lsv.links[l]) done
        joined := renewed s.lsv.joined (fun l => joinNote s.lsv.frames count s.lsv.links[l] s.lsv.joined[l]) done } }
    (done.flatMap fun l => joinReports l s.lsv.links[l])

theorem foldl_joinLink (count : Word) (s : State) : (List.finRange 24).foldl (joinLink count) s = joinStage count s (List.finRange 24) := by
  have start : joinStage count s [] = s := by
    unfold joinStage
    rw [renewed_nil, renewed_nil, List.flatMap_nil, withReports_nil]
  have steps := foldl_stages (joinLink count) (joinStage count s) (fun done l fresh => ?_) (List.finRange 24) [] (List.nodup_finRange 24)
  · rwa [start] at steps
  · have record : (joinStage count s done).lsv.links[l] = s.lsv.links[l] := renewed_fresh _ _ fresh
    have note : (joinStage count s done).lsv.joined[l] = s.lsv.joined[l] := renewed_fresh _ _ fresh
    rw [joinLink_eq, record, note]
    unfold joinStage withReports
    dsimp only
    rw [put_renewed s.lsv.links (fun l => joinedRecord s.lsv.links[l]),
      put_renewed s.lsv.joined (fun l => joinNote s.lsv.frames count s.lsv.links[l] s.lsv.joined[l]), List.flatMap_append, List.append_assoc]
    simp only [List.flatMap_cons, List.flatMap_nil, List.append_nil]

theorem flatMap_joinReports (s : State) (ls : List (Fin 24)) :
    (ls.flatMap fun l => joinReports l s.lsv.links[l]) = (ls.filter fun l => (s.lsv.links[l]).state == .recover).map
      fun l => linkReport l .recover { s.lsv.links[l] with state := .active, miss := 0 } .joined := by
  induction ls with
  | nil => rfl
  | cons l ls ih =>
    rw [List.flatMap_cons, ih, List.filter_cons]
    unfold joinReports
    by_cases h : (s.lsv.links[l]).state = .recover
    · rw [if_pos h, if_pos (beq_iff_eq.mpr h)]
      rfl
    · rw [if_neg h, if_neg fun e => h (beq_iff_eq.mp e)]
      rfl

/-! ### The start of a send (R101, R126) -/

theorem participates_iff (s : State) (l : Fin 24) : participates s l = true ↔ joins s l := by
  simp [participates, joins]

/-- A bank that becomes SENDING or RESENDING as its send starts. -/
theorem startSend_started (s : State) (count : Word) (kind : SendKind) (k : Fin 4) (st : BankState) :
    SendStarted s (startSend (setBank s k { s.banks[k] with state := st }) count kind k) count kind k st := by
  unfold startSend SendStarted
  dsimp only
  rw [foldl_joinLink, soRaise_spec]
  obtain ⟨ls, all, every⟩ : ∃ ls : List (Fin 24), (∀ l, l ∈ ls) ∧ List.finRange 24 = ls := ⟨_, List.mem_finRange, rfl⟩
  rw [every]
  refine ⟨tabulate fun l => if participates s l then some (startPart s.cc l) else none, fun l => ⟨fun h => ?_, fun h => ?_, ?_, ?_, ?_⟩,
    fun j => ?_, ?_, ?_, rfl⟩
  · rw [getElem_tabulate_fin, if_pos ((participates_iff s l).mpr h)]
    rfl
  · rw [getElem_tabulate_fin, if_neg fun h' => h ((participates_iff s l).mp h')]
  · exact getElem_tabulate_fin ..
  · exact renewed_mem _ _ (all l)
  · exact renewed_mem _ _ (all l)
  · rcases eq_or_ne j k with rfl | other
    · rw [if_pos rfl]
      exact put_same ..
    · rw [if_neg other]
      exact put_ne _ _ _ _ other
  · exact congrArg (s.so.claim || ·) (anyNeedsFetch_congr rfl)
  · rw [← flatMap_joinReports]
    rfl

/-- Settles O52, by the bank that is READY or SHOWN. -/
theorem sendsStartFromTheReadyOrShownBank : Obligations.SendsStartFromTheReadyOrShownBank := by
  unfold Obligations.SendsStartFromTheReadyOrShownBank
  intro s count
  unfold attemptSend sendReady resendShown
  refine ⟨fun k ready => ?_, fun k none resend shown => ?_, fun none idle => ?_⟩
  · rw [ready]
    exact startSend_started ..
  · rw [none]
    dsimp only
    rw [if_pos resend, shown]
    exact startSend_started ..
  · rw [none]
    dsimp only
    rcases idle with off | none
    · rw [if_neg (by rw [off]; decide)]
    · rw [none]
      dsimp only
      split <;> rfl

end Sys2Proof.Machine
end

section
/-! Marks, the show gate and the show (O51). -/

namespace Sys2Proof.Machine

/-! ### Marks (R98, R111) -/

/-- The transmitter of a link after a mark. -/
def markedTx (c : Shadow) (now : Nat) (m : Mark) (l : Fin 24) (x : Transmitter) : Transmitter :=
  if c.linkEnable l = false then x
  else if x.shift = none then { x with shift := some ⟨.mark m, now + 8 * c.linkByteTicks l⟩ }
  else { x with mark := some m }

theorem giveMark_eq (m : Mark) (s : State) (l : Fin 24) :
    giveMark m s l = { s with tx := put s.tx l (markedTx s.cc s.now m l s.tx[l]) } := by
  unfold giveMark markedTx
  cases s.cc.linkEnable l with
  | false =>
    simp only [if_pos, Bool.not_false]
    rw [put_self]
  | true =>
    simp only [Bool.not_true, Bool.true_eq_false, Bool.false_eq_true, if_false, Option.isNone_iff_eq_none]
    split <;> rfl

/-- The links of a list given a mark. -/
def markStage (s : State) (m : Mark) (done : List (Fin 24)) : State :=
  { s with tx := renewed s.tx (fun l => markedTx s.cc s.now m l s.tx[l]) done }

theorem foldl_giveMark (s : State) (m : Mark) : (List.finRange 24).foldl (giveMark m) s = markStage s m (List.finRange 24) := by
  have start : markStage s m [] = s := by
    unfold markStage
    rw [renewed_nil]
  have steps := foldl_stages (giveMark m) (markStage s m) (fun done l fresh => ?_) (List.finRange 24) [] (List.nodup_finRange 24)
  · rwa [start] at steps
  · have own : (markStage s m done).tx[l] = s.tx[l] := renewed_fresh _ _ fresh
    rw [giveMark_eq, own]
    unfold markStage
    dsimp only
    rw [put_renewed s.tx fun l => markedTx s.cc s.now m l s.tx[l]]

theorem giveMarks_given (s : State) (n : FrameNotice) (m : Mark) : MarksGiven s (giveMarks s n m) n.count m := by
  unfold giveMarks
  dsimp only
  rw [foldl_giveMark]
  obtain ⟨ls, all, every⟩ : ∃ ls : List (Fin 24), (∀ l, l ∈ ls) ∧ List.finRange 24 = ls := ⟨_, List.mem_finRange, rfl⟩
  rw [every]
  have given (l : Fin 24) : (markStage s m ls).tx[l] = markedTx s.cc s.now m l s.tx[l] := renewed_mem _ _ (all l)
  unfold markedTx at given
  refine ⟨fun l => ⟨fun off => ?_, fun on empty => ?_, fun x on shifting => ?_⟩, by unfold markStage; rfl⟩
  · exact (given l).trans (if_pos off)
  · exact (given l).trans ((if_neg (by rw [on]; decide)).trans (if_pos empty))
  · exact (given l).trans ((if_neg (by rw [on]; decide)).trans (if_neg (by rw [shifting]; simp)))

/-! ### The show (R26) -/

theorem isCopySource_iff_exists (s : State) (j : Fin 4) :
    isCopySource s j = true ↔ ∃ k : Fin 4, (s.banks[k]).state.fills = true ∧ (s.banks[k]).src = some j := by
  have fills (st : BankState) : st.fills = true ↔ st = .filling ∨ st = .sealing := by cases st <;> simp [BankState.fills]
  simp only [isCopySource, List.any_eq_true, List.mem_finRange, true_and, Bool.and_eq_true, Bool.or_eq_true, beq_iff_eq, fills]

theorem sends_iff (st : BankState) : st.sends = true ↔ st = .sending ∨ st = .resending := by cases st <;> simp [BankState.sends]

/-- With at most one bank of a class, a bank in one of its states is the one found. -/
theorem bankIn_of_state {s : State} {p : BankState → Bool} (one : AtMostOne s p) {st : BankState} (hp : p st = true) {k : Fin 4}
    (h : (s.banks[k]).state = st) : bankIn s st = some k := by
  obtain ⟨found, e⟩ : ∃ found, bankIn s st = found := ⟨_, rfl⟩
  rw [e]
  cases found with
  | none => exact absurd h (bankIn_none e k)
  | some j => rw [one j k (by rw [bankIn_some e]; exact hp) (by rw [h]; exact hp)]

theorem bankIn_absent {s : State} {st : BankState} (h : ∀ k : Fin 4, (s.banks[k]).state ≠ st) : bankIn s st = none := by
  obtain ⟨found, e⟩ : ∃ found, bankIn s st = found := ⟨_, rfl⟩
  rw [e]
  cases found with
  | none => rfl
  | some j => exact absurd (bankIn_some e) (h j)

theorem showSent_sending {s : State} (law : BankLaw s) {k : Fin 4} (sending : (s.banks[k]).state = .sending) :
    showSent s = (setShown (leaveScreen s) k, some k) := by
  unfold showSent
  rw [bankIn_of_state law.2.2.1 rfl sending]

theorem showSent_resending {s : State} (law : BankLaw s) {k : Fin 4} (resending : (s.banks[k]).state = .resending) :
    showSent s = (setShown s k, some k) := by
  have none (j : Fin 4) : (s.banks[j]).state ≠ .sending := fun h => by
    obtain rfl := law.2.2.1 j k (by rw [h]; rfl) (by rw [resending]; rfl)
    rw [h] at resending
    exact absurd resending (by decide)
  unfold showSent
  rw [bankIn_absent none]
  dsimp only
  rw [bankIn_of_state law.2.2.1 rfl resending]

theorem showSent_none {s : State} (h : ∀ k : Fin 4, (s.banks[k]).state.sends = false) : showSent s = (s, none) := by
  unfold showSent
  rw [bankIn_absent fun k e => absurd ((sends_iff _).mpr (.inl e)) (by rw [h k]; decide)]
  dsimp only
  rw [bankIn_absent fun k e => absurd ((sends_iff _).mpr (.inr e)) (by rw [h k]; decide)]

theorem leaveScreen_shown {s : State} (law : BankLaw s) {j : Fin 4} (shown : (s.banks[j]).state = .shown) :
    leaveScreen s = releaseBank s j := by
  unfold leaveScreen
  rw [bankIn_of_state law.2.2.2.1 rfl shown]

/-- The banks after the show: the one sent is SHOWN, the one shown before leaves the screen. -/
theorem showSent_spec {s : State} (law : BankLaw s) :
    (∀ k : Fin 4, (s.banks[k]).state.sends = true →
        (showSent s).2 = some k ∧ (showSent s).1.banks[k] = { s.banks[k] with state := .shown })
    ∧ (∀ k j : Fin 4, (s.banks[k]).state = .sending → (s.banks[j]).state = .shown →
        (showSent s).1.banks[j] = if isCopySource s j = true then { s.banks[j] with state := .retiring } else (s.banks[j]).freed)
    ∧ (∀ j : Fin 4, (s.banks[j]).state.sends = false →
        (s.banks[j]).state ≠ .shown ∨ (∀ k : Fin 4, (s.banks[k]).state ≠ .sending) → (showSent s).1.banks[j] = s.banks[j]) := by
  refine ⟨fun k sends => ?_, fun k j sending shown => ?_, fun j resting other => ?_⟩
  · rcases (sends_iff _).mp sends with sending | resending
    · rw [showSent_sending law sending]
      refine ⟨rfl, (put_same ..).trans ?_⟩
      rw [leaveScreen_ne s k (by rw [sending]; decide)]
    · rw [showSent_resending law resending]
      exact ⟨rfl, put_same ..⟩
  · have apart : j ≠ k := fun e => by rw [e, sending] at shown; exact absurd shown (by decide)
    rw [showSent_sending law sending]
    refine (put_ne _ _ _ _ apart).trans ?_
    rw [leaveScreen_shown law shown, releaseBank_spec]
    exact setBank_same ..
  · by_cases sending : ∃ k : Fin 4, (s.banks[k]).state = .sending
    · obtain ⟨k, sending⟩ := sending
      have apart : j ≠ k := fun e => by rw [e, sending] at resting; exact absurd resting (by decide)
      rw [showSent_sending law sending]
      exact (put_ne _ _ _ _ apart).trans (leaveScreen_ne s j (other.resolve_right fun h => h k sending))
    · by_cases resending : ∃ k : Fin 4, (s.banks[k]).state = .resending
      · obtain ⟨k, resending⟩ := resending
        have apart : j ≠ k := fun e => by rw [e, resending] at resting; exact absurd resting (by decide)
        rw [showSent_resending law resending]
        exact put_ne _ _ _ _ apart
      · have rests (k : Fin 4) : (s.banks[k]).state.sends = false := by
          rw [← Bool.not_eq_true, sends_iff]
          rintro (h | h)
          · exact sending ⟨k, h⟩
          · exact resending ⟨k, h⟩
        rw [showSent_none rests]

/-! ### The show gate (R98, R99) -/

theorem sendComplete_iff (d : Send) : sendComplete d = true ↔ ∀ (l : Fin 24) (p : Part), d.parts[l] = some p → p.complete = true := by
  unfold sendComplete
  rw [List.all_eq_true]
  refine forall_congr' fun l => ?_
  rw [imp_iff_right (List.mem_finRange l)]
  obtain ⟨part, e⟩ : ∃ part, d.parts[l] = part := ⟨_, rfl⟩
  rw [e]
  cases part <;> simp

theorem raiseLate_incomplete (d : Send) (v : Vector ScanLink 24) (l : Fin 24) (p : Part) (part : d.parts[l] = some p)
    (incomplete : p.complete = false) : (raiseLate d v)[l] = { v[l] with late := (v[l]).late + 1 } := by
  rw [raiseLate, getElem_tabulate_fin, part]
  dsimp only
  rw [incomplete]
  rfl

theorem raiseLate_complete (d : Send) (v : Vector ScanLink 24) (l : Fin 24) (h : ∀ p, d.parts[l] = some p → p.complete = true) :
    (raiseLate d v)[l] = v[l] := by
  rw [raiseLate, getElem_tabulate_fin]
  split
  · rfl
  · next p part => rw [h p part]; rfl

theorem showGate_held (s : State) (d : Send) (h : sendComplete d = false) :
    showGate s d = ({ s with so := { s.so with links := raiseLate d s.so.links } }, ⟨false, s.so.lastShown⟩) := by
  unfold showGate
  rw [h]
  rfl

theorem showGate_shown (s : State) (d : Send) (h : sendComplete d = true) : showGate s d = (endSend s d, ⟨true, d.tag⟩) := by
  unfold showGate
  rw [h]
  rfl

theorem scanOutFrame_stopped (s : State) (n : FrameNotice) (h : s.cc.running = false) : scanOutFrame s n = s := by
  unfold scanOutFrame
  rw [h]
  rfl

theorem scanOutFrame_lost (s : State) (n : FrameNotice) (h : s.cc.running = true) (lost : n.lock = .lost) :
    scanOutFrame s n = giveMarks s n ⟨false, s.so.lastShown⟩ := by
  unfold scanOutFrame
  rw [h, if_neg (by decide), if_pos lost]

theorem scanOutFrame_idle (s : State) (n : FrameNotice) (h : s.cc.running = true) (live : n.lock ≠ .lost) (idle : s.so.send = none) :
    scanOutFrame s n = attemptSend (giveMarks s n ⟨false, s.so.lastShown⟩) n.count := by
  unfold scanOutFrame
  rw [h, if_neg (by decide), if_neg live, idle]

theorem scanOutFrame_held (s : State) (n : FrameNotice) (d : Send) (h : s.cc.running = true) (live : n.lock ≠ .lost)
    (send : s.so.send = some d) (gate : sendComplete d = false) :
    scanOutFrame s n = giveMarks { s with so := { s.so with links := raiseLate d s.so.links } } n ⟨false, s.so.lastShown⟩ := by
  unfold scanOutFrame
  rw [h, if_neg (by decide), if_neg live]
  split
  · next idle => rw [idle] at send; exact absurd send (by simp)
  · next d' send' =>
    obtain rfl : d' = d := Option.some.inj (send'.symm.trans send)
    rw [showGate_held s d' gate]
    dsimp only
    rw [giveMarks_so, send]
    rfl

theorem scanOutFrame_shown (s : State) (n : FrameNotice) (d : Send) (h : s.cc.running = true) (live : n.lock ≠ .lost)
    (send : s.so.send = some d) (gate : sendComplete d = true) :
    scanOutFrame s n = attemptSend (giveMarks (endSend s d) n ⟨true, d.tag⟩) n.count := by
  unfold scanOutFrame
  rw [h, if_neg (by decide), if_neg live]
  split
  · next idle => rw [idle] at send; exact absurd send (by simp)
  · next d' send' =>
    obtain rfl : d' = d := Option.some.inj (send'.symm.trans send)
    rw [showGate_shown s d' gate]
    dsimp only
    rw [giveMarks_so]
    rfl

/-- Settles O51, by the wall, the lock and the show gate. -/
theorem marksFollowTheShowGate : Obligations.MarksFollowTheShowGate := by
  unfold Obligations.MarksFollowTheShowGate
  refine ⟨fun s none => ?_, isCopySource_iff_exists, fun s law => ⟨fun k sends => ((showSent_spec law).1 k sends).1, showSent_none⟩,
    fun s n rest law notice => ?_⟩
  · show execScanOutFrameEvent s = _
    unfold execScanOutFrameEvent
    rw [none]
  · have event : exec .scanOutFrameEvent s = .next (scanOutFrame { s with so := { s.so with frames := rest } } n) := by
      show execScanOutFrameEvent s = _
      unfold execScanOutFrameEvent
      rw [notice]
    dsimp only
    rw [event]
    refine ⟨fun stopped => ?_, fun runs lost => ?_, fun runs live idle => ?_, fun d runs live send late => ?_, fun d runs live send done => ?_⟩
    · rw [scanOutFrame_stopped]
      exact stopped
    · exact ⟨_, congrArg _ (scanOutFrame_lost _ n runs lost), giveMarks_given ..⟩
    · exact ⟨_, congrArg _ (scanOutFrame_idle _ n runs live idle), giveMarks_given ..⟩
    · obtain ⟨l, p, part, incomplete⟩ := late
      have gate : sendComplete d = false := by
        rw [← Bool.not_eq_true, sendComplete_iff]
        exact fun h => absurd (h l p part) (by rw [incomplete]; decide)
      exact ⟨_, _, congrArg _ (scanOutFrame_held _ n d runs live send gate), giveMarks_given .., fun l p part h => raiseLate_incomplete d _ l p part h,
        fun l h => raiseLate_complete d _ l h, rfl⟩
    · obtain ⟨shown, leaves, stays⟩ := showSent_spec (s := { s with so := { s.so with frames := rest } }) law
      refine ⟨_, _, congrArg _ (scanOutFrame_shown _ n d runs live send ((sendComplete_iff d).mpr done)), giveMarks_given .., fun l => ?_,
        fun k h => (shown k h).2, leaves, stays, ?_⟩
      · unfold endSend
        rw [showSent_only]
        exact getElem_tabulate_fin ..
      · unfold endSend
        rw [showSent_only]

end Sys2Proof.Machine
end

section
/-! The check of the links, and the mark notices (O56). -/

namespace Sys2Proof.Machine

/-! ### One link (R123 to R126) -/

/-- The check of the event of a count judges a link. -/
def judgedBy (count : Word) (expected : Option Tag) (r : LinkRecord) (note : Option Word) : Bool :=
  decide (r.state = .active) && decide (note ≠ some count) && expected.isSome

/-- It finds a miss. -/
def missedBy (count : Word) (expected : Option Tag) (r : LinkRecord) (note : Option Word) : Bool :=
  judgedBy count expected r note && decide (r.buffer ≠ expected)

/-- The miss is the last one allowed. -/
def faultedBy (count : Word) (expected : Option Tag) (limit : Nat) (r : LinkRecord) (note : Option Word) : Bool :=
  missedBy count expected r note && decide (limit ≤ r.miss + 1)

/-- A link in FAULT has reported. -/
def recoveredBy (r : LinkRecord) : Bool := decide (r.state = .fault) && r.buffer.isSome

/-- The record of a link after its check. -/
def checkedRecord (count : Word) (expected : Option Tag) (limit : Nat) (r : LinkRecord) (note : Option Word) : LinkRecord :=
  if recoveredBy r = true then { r with buffer := none, miss := 0, state := .recover }
  else if r.state = .off ∨ r.state = .fault then r
  else if missedBy count expected r note = true then
    { r with buffer := none, miss := r.miss + 1, state := if faultedBy count expected limit r note = true then .fault else .active }
  else if judgedBy count expected r note = true then { r with buffer := none, miss := 0 }
  else { r with buffer := none }

/-- The reports of a link's check (R132). -/
def checkReports (l : Fin 24) (count : Word) (expected : Option Tag) (limit : Nat) (r : LinkRecord) (note : Option Word) : List Report :=
  if faultedBy count expected limit r note = true then [linkReport l .active (checkedRecord count expected limit r note) .missLimit]
  else if recoveredBy r = true then [linkReport l .fault (checkedRecord count expected limit r note) .reportGood] else []

/-- A link's record replaced, with the notices and reports that go with it. -/
def linkEffect (s : State) (l : Fin 24) (r : LinkRecord) (leaves recovers : List (Fin 24)) (reports : List Report) : State :=
  withReports
    { s with
      lsv := { s.lsv with links := put s.lsv.links l r }
      so := { s.so with leaves := s.so.leaves ++ leaves, recovers := s.so.recovers ++ recovers } }
    reports

theorem linkEffect_none (s : State) (l : Fin 24) : linkEffect s l s.lsv.links[l] [] [] [] = s := by
  unfold linkEffect
  rw [put_self, List.append_nil, List.append_nil, withReports_nil]

theorem setLink_effect (s : State) (l : Fin 24) (r : LinkRecord) : setLink s l r = linkEffect s l r [] [] [] := by
  unfold linkEffect
  rw [List.append_nil, List.append_nil, withReports_nil]
  rfl

theorem checkLink_eq (count : Word) (expected : Option Tag) (limit : Nat) (s : State) (l : Fin 24) (r : LinkRecord) (note : Option Word)
    (record : s.lsv.links[l] = r) (noted : s.lsv.joined[l] = note) :
    checkLink count expected limit s l = linkEffect s l (checkedRecord count expected limit r note)
      (if faultedBy count expected limit r note = true then [l] else []) (if recoveredBy r = true then [l] else [])
      (checkReports l count expected limit r note) := by
  have stays : linkEffect s l r [] [] [] = s := by rw [← record, linkEffect_none]
  have changed (r' : LinkRecord) (cause : LinkCause) : changeLink s l r' cause = linkEffect s l r'
      (if r.state = .active ∧ r'.state ≠ .active then [l] else []) (if r'.state = .recover ∧ r.state ≠ .recover then [l] else [])
      [linkReport l r.state r' cause] := by
    rw [changeLink_eq, record]
    rfl
  unfold checkLink
  dsimp only
  rw [record, noted]
  unfold checkReports checkedRecord faultedBy missedBy judgedBy recoveredBy
  cases state : r.state with
  | off => simp [stays]
  | recover => simp [setLink_effect]
  | fault =>
    cases buffer : r.buffer with
    | none => simp [stays]
    | some tag => simp [changed, state]
  | active =>
    by_cases joined : note = some count
    · simp [joined, setLink_effect]
    · cases expected with
      | none => simp [joined, setLink_effect]
      | some tag =>
        by_cases hit : r.buffer = some tag
        · simp [joined, hit, setLink_effect]
        · by_cases last : limit ≤ r.miss + 1
          · simp [joined, hit, last, changed, state]
          · simp [joined, hit, last, setLink_effect]

/-- The record after the check, by state and judgement. -/
theorem checkedRecord_spec (count : Word) (expected : Option Tag) (limit : Nat) (r : LinkRecord) (note : Option Word) :
    (r.state = .off → checkedRecord count expected limit r note = r)
    ∧ (r.state = .active → judgedBy count expected r note = false → checkedRecord count expected limit r note = { r with buffer := none })
    ∧ (judgedBy count expected r note = true → missedBy count expected r note = false →
        checkedRecord count expected limit r note = { r with buffer := none, miss := 0 })
    ∧ (missedBy count expected r note = true → checkedRecord count expected limit r note = { r with
        buffer := none, miss := r.miss + 1, state := if faultedBy count expected limit r note = true then .fault else .active })
    ∧ (r.state = .fault → recoveredBy r = true → checkedRecord count expected limit r note = { r with buffer := none, miss := 0, state := .recover })
    ∧ (r.state = .fault → recoveredBy r = false → checkedRecord count expected limit r note = r)
    ∧ (r.state = .recover → checkedRecord count expected limit r note = { r with buffer := none }) := by
  have active : judgedBy count expected r note = true → r.state = .active := fun h => by
    unfold judgedBy at h
    simp only [Bool.and_eq_true, decide_eq_true_eq] at h
    exact h.1.1
  have judged : missedBy count expected r note = true → judgedBy count expected r note = true := fun h => by
    unfold missedBy at h
    exact (Bool.and_eq_true_iff.mp h).1
  have faulty : recoveredBy r = true → r.state = .fault := fun h => by
    unfold recoveredBy at h
    simp only [Bool.and_eq_true, decide_eq_true_eq] at h
    exact h.1
  have apart {st : LinkState} (h : r.state = st) (ne : st ≠ .fault) : ¬ recoveredBy r = true := fun h' => ne (h.symm.trans (faulty h'))
  have unjudged {st : LinkState} (h : r.state = st) (ne : st ≠ .active) : ¬ judgedBy count expected r note = true :=
    fun h' => ne (h.symm.trans (active h'))
  unfold checkedRecord
  refine ⟨fun off => ?_, fun live idle => ?_, fun j hit => ?_, fun miss => ?_, fun _ recovers => if_pos recovers, fun fault silent => ?_,
    fun recover => ?_⟩
  · rw [if_neg (apart off (by decide)), if_pos (.inl off)]
  · have quiet : ¬ judgedBy count expected r note = true := by rw [idle]; decide
    rw [if_neg (apart live (by decide)), if_neg (by rw [live]; decide), if_neg fun h => quiet (judged h), if_neg quiet]
  · have live := active j
    rw [if_neg (apart live (by decide)), if_neg (by rw [live]; decide), if_neg (by rw [hit]; decide), if_pos j]
  · have live := active (judged miss)
    rw [if_neg (apart live (by decide)), if_neg (by rw [live]; decide), if_pos miss]
  · rw [if_neg (by rw [silent]; decide), if_pos (.inr fault)]
  · have quiet := unjudged recover (by decide)
    rw [if_neg (apart recover (by decide)), if_neg (by rw [recover]; decide), if_neg fun h => quiet (judged h), if_neg quiet]

/-! ### Every link (R132) -/

/-- The links of a list checked. -/
def checkStage (count : Word) (expected : Option Tag) (limit : Nat) (s : State) (done : List (Fin 24)) : State :=
  withReports
    { s with
      lsv := { s.lsv with
        links := renewed s.lsv.links (fun l => checkedRecord count expected limit s.lsv.links[l] s.lsv.joined[l]) done }
      so := { s.so with
        leaves := s.so.leaves ++ done.filter fun l => faultedBy count expected limit s.lsv.links[l] s.lsv.joined[l]
        recovers := s.so.recovers ++ done.filter fun l => recoveredBy s.lsv.links[l] } }
    (done.flatMap fun l => checkReports l count expected limit s.lsv.links[l] s.lsv.joined[l])

theorem checkStage_links (count : Word) (expected : Option Tag) (limit : Nat) (s : State) (done : List (Fin 24)) :
    (checkStage count expected limit s done).lsv.links
      = renewed s.lsv.links (fun l => checkedRecord count expected limit s.lsv.links[l] s.lsv.joined[l]) done := rfl

theorem checkStage_joined (count : Word) (expected : Option Tag) (limit : Nat) (s : State) (done : List (Fin 24)) :
    (checkStage count expected limit s done).lsv.joined = s.lsv.joined := rfl

theorem foldl_checkLink_eq (count : Word) (expected : Option Tag) (limit : Nat) (s : State) :
    (List.finRange 24).foldl (checkLink count expected limit) s = checkStage count expected limit s (List.finRange 24) := by
  have start : checkStage count expected limit s [] = s := by
    unfold checkStage
    rw [renewed_nil, List.flatMap_nil, List.filter_nil, List.filter_nil, List.append_nil, List.append_nil, withReports_nil]
  have steps := foldl_stages (checkLink count expected limit) (checkStage count expected limit s) (fun done l fresh => ?_) (List.finRange 24) []
    (List.nodup_finRange 24)
  · rwa [start] at steps
  · have record : (checkStage count expected limit s done).lsv.links[l] = s.lsv.links[l] := by
      rw [checkStage_links, renewed_fresh _ _ fresh]
    have joined : (checkStage count expected limit s done).lsv.joined[l] = s.lsv.joined[l] := by
      rw [checkStage_joined]
    rw [checkLink_eq count expected limit _ l _ _ record joined]
    unfold linkEffect checkStage withReports
    dsimp only
    rw [put_renewed s.lsv.links fun l => checkedRecord count expected limit s.lsv.links[l] s.lsv.joined[l]]
    simp only [List.flatMap_append, List.filter_append, List.filter_cons, List.filter_nil, List.flatMap_cons, List.flatMap_nil, List.append_nil,
      List.append_assoc]

theorem supervise_stopped (s : State) (count : Word) (h : s.cc.running = false) : supervise s count = noticeTaken s count := by
  unfold supervise
  rw [h]
  rfl

theorem supervise_running (s : State) (count : Word) (h : s.cc.running = true) :
    supervise s count = noticeTaken (checkStage count s.lsv.expected s.cc.missLimit s (List.finRange 24)) count := by
  unfold supervise checkLinks
  rw [h, foldl_checkLink_eq]
  rfl

theorem noticeTaken_joined (s : State) (count : Word) (l : Fin 24) :
    (noticeTaken s count).lsv.joined[l] = if s.lsv.joined[l] = some count then none else s.lsv.joined[l] := getElem_tabulate_fin ..

theorem noticeTaken_only (s : State) (count : Word) :
    noticeTaken s count = { s with lsv := { s.lsv with joined := (noticeTaken s count).lsv.joined } } := rfl

/-- Settles O56: the due marks, the check of each link, and the mark notice. -/
theorem checksJudgeEachLink : Obligations.ChecksJudgeEachLink := by
  unfold Obligations.ChecksJudgeEachLink
  intro s
  refine ⟨fun none => ?_, fun n rest due wait notice marks taken waits => ?_, fun none => ?_, fun m rest marks waits => ?_,
    fun m rest marks taken => ?_⟩
  · show execLinkCheck s = _
    unfold execLinkCheck
    rw [none]
  · intro expected
    have applied : applyDueMarks s = { s with lsv := { s.lsv with expected := expected, marks := wait } } := by
      unfold applyDueMarks
      dsimp only
      rw [marks]
      exact congrArg (fun r : Option Tag × List MarkNotice => ({ s with lsv := { s.lsv with expected := r.1, marks := r.2 } } : State))
        (applyMarks_spec s.lsv.frames due s.lsv.expected wait taken waits)
    have check : exec .linkCheck s = .next (supervise { s with lsv := { s.lsv with
        frames := rest, marks := wait, expected := expected } } n.count) := by
      show execLinkCheck s = _
      unfold execLinkCheck
      rw [notice]
      dsimp only
      rw [applied]
    rw [check]
    obtain ⟨ls, all, every⟩ : ∃ ls : List (Fin 24), (∀ l, l ∈ ls) ∧ List.finRange 24 = ls := ⟨_, List.mem_finRange, rfl⟩
    rw [every]
    cases wall : s.cc.running with
    | false =>
      rw [supervise_stopped]
      · exact ⟨_, rfl, noticeTaken_joined _ _, fun _ => noticeTaken_only _ _, fun h => absurd h (by decide)⟩
      · exact wall
    | true =>
      rw [supervise_running, every]
      · refine ⟨_, rfl, noticeTaken_joined _ _, fun h => absurd h (by decide), fun _ => ⟨fun l => ?_, ?_, ?_⟩⟩
        · have record := checkedRecord_spec n.count expected s.cc.missLimit s.lsv.links[l] s.lsv.joined[l]
          rw [noticeTaken_only]
          dsimp only
          rw [checkStage_links, renewed_mem _ _ (all l)]
          exact record
        · rw [noticeTaken_only]
          dsimp only
          rw [checkStage_links]
          refine congrArg (s.rw.reports ++ ·) (List.flatMap_congr fun l _ => ?_)
          rw [renewed_mem _ _ (all l)]
          rfl
        · rw [noticeTaken_only]
          rfl
      · exact wall
  · show execMarkNotice s = _
    unfold execMarkNotice
    rw [none]
  · show execMarkNotice s = _
    unfold execMarkNotice
    rw [marks]
    dsimp only
    rw [if_pos (by simpa using waits)]
  · show execMarkNotice s = _
    unfold execMarkNotice
    rw [marks]
    dsimp only
    rw [if_neg (by simpa using taken)]

end Sys2Proof.Machine
end

section
/-! Return packets (O55). -/

namespace Sys2Proof.Machine

/-! ### Lists made of groups of one length -/

theorem getElem?_flatMap_groups {α β : Type} (f : α → List β) {n : Nat} (pos : 0 < n) (len : ∀ x, (f x).length = n) :
    ∀ (l : List α) (j : Nat), (l.flatMap f)[j]? = (l[j / n]?).bind fun x => (f x)[j % n]? := by
  intro l
  induction l with
  | nil => intro j; simp
  | cons x xs ih =>
    intro j
    rw [List.flatMap_cons]
    by_cases first : j < n
    · rw [List.getElem?_append_left (by rw [len]; exact first), Nat.div_eq_of_lt first, Nat.mod_eq_of_lt first]
      rfl
    · have again : n ≤ j := Nat.le_of_not_lt first
      rw [List.getElem?_append_right (by rw [len]; exact again), len, ih, Nat.mod_eq_sub_mod again, Nat.div_eq_sub_div pos again]
      rfl

theorem length_flatMap_groups {α β : Type} (f : α → List β) {n : Nat} (len : ∀ x, (f x).length = n) (l : List α) :
    (l.flatMap f).length = n * l.length := by
  induction l with
  | nil => rfl
  | cons x xs ih => rw [List.flatMap_cons, List.length_append, len x, ih, List.length_cons, Nat.mul_succ, Nat.add_comm]

/-! ### Bytes on a line (R200) -/

theorem lineBits_length (b : Byte) : (lineBits b).length = 10 := rfl

/-- The data bits stand after the start bit. -/
theorem lineBits_data (b : Byte) (i : Nat) (h : i < 8) : (lineBits b)[i + 1]? = some (b.getLsbD i) := by
  interval_cases i <;> rfl

theorem byteReceived_lineBits (start : Nat) (b : Byte) : byteReceived start (lineBits b) = ⟨start, b, true⟩ := by
  have data : (List.range 8).foldl (fun c i => c ||| ((BitVec.ofBool ((lineBits b).getD (i + 1) idleLevel)).setWidth 8 <<< i)) (0 : Byte) = b := by
    have bit (i : Nat) (h : i < 8) : (lineBits b).getD (i + 1) idleLevel = b.getLsbD i := by
      rw [List.getD_eq_getElem?_getD, lineBits_data b i h]
      rfl
    simp only [List.range_succ, List.range_zero, List.nil_append, List.foldl_append, List.foldl_cons, List.foldl_nil]
    rw [bit 0 (by decide), bit 1 (by decide), bit 2 (by decide), bit 3 (by decide), bit 4 (by decide), bit 5 (by decide), bit 6 (by decide),
      bit 7 (by decide)]
    refine BitVec.eq_of_getLsbD_eq fun j h => ?_
    simp only [BitVec.getLsbD_or, BitVec.getLsbD_shiftLeft, BitVec.getLsbD_setWidth, BitVec.getLsbD_ofBool]
    interval_cases j <;> simp
  unfold byteReceived
  rw [data]
  rfl

theorem lineLevel_idle (bytes : List Byte) (j : Nat) (h : 10 * bytes.length ≤ j) : lineLevel bytes j = true := by
  unfold lineLevel
  rw [List.getElem?_eq_none (by rw [length_flatMap_groups lineBits lineBits_length]; exact h)]
  rfl

theorem lineLevel_byte (bytes : List Byte) (j : Nat) (b : Byte) (h : bytes[j / 10]? = some b) : some (lineLevel bytes j) = (lineBits b)[j % 10]? := by
  unfold lineLevel
  rw [getElem?_flatMap_groups lineBits (by decide) lineBits_length, h]
  have inside : j % 10 < (lineBits b).length := Nat.mod_lt _ (by decide)
  rw [Option.bind_some, List.getElem?_eq_getElem inside]
  rfl

/-! ### The cut and the tests (R121, R122, R200) -/

theorem cutRun_of_isRun {rate : Nat} {bytes run : List RxByte} (h : IsRun rate bytes run) : cutRun rate bytes = run := by
  obtain ⟨some, rest, rfl, inner, outer⟩ := h
  refine cutRun_spec rate run rest some (fun i a b ha hb => ?_) fun a b ha hb => ?_
  · have := inner i a b ha hb
    unfold idleBetween stopEnd
    simp only [decide_eq_false_iff_not]
    omega
  · have := outer a b ha hb
    unfold idleBetween stopEnd
    simp only [decide_eq_true_eq]
    omega

theorem arrivalTick_ninth (rate : Nat) (run : List RxByte) (b : RxByte) (h : run[8]? = some b) : arrivalTick rate run = b.start := by
  unfold arrivalTick
  rw [h]

theorem arrivalTick_idle (rate : Nat) (run : List RxByte) (b : RxByte) (short : run.length ≤ 8) (last : run.getLast? = some b) :
    arrivalTick rate run = b.start + 2 * (rate + 1) + 1 := by
  unfold arrivalTick
  rw [List.getElem?_eq_none short, last]
  dsimp only
  unfold stopEnd
  omega

theorem framingGood_iff (first : RxByte) (more : List RxByte) :
    framingGood (first :: more) = true ↔
      (first :: more).length = 8 ∧ (∀ b ∈ first :: more, b.stopHigh = true) ∧ first.data = 0x08 := by
  unfold framingGood
  rw [Bool.and_eq_true, Bool.and_eq_true, beq_iff_eq, beq_iff_eq, List.all_eq_true, and_assoc]
  simp

/-- A link that does not receive ignores a packet. -/
theorem takePacket_ignored (s : State) (l : Fin 24) (run : List RxByte) (h : (s.lsv.links[l]).state = .off ∨ (s.lsv.links[l]).inhibit = true) :
    takePacket s l run = s := by
  unfold takePacket
  dsimp only
  rw [if_pos h]

theorem takePacket_good (s : State) (l : Fin 24) (run : List RxByte) (receives : ¬ ((s.lsv.links[l]).state = .off ∨ (s.lsv.links[l]).inhibit = true))
    (good : packetFault s.lsv.links[l] run = none) :
    takePacket s l run = setLink s l { s.lsv.links[l] with buffer := some ((run.map (·.data)).getD 1 0) } := by
  unfold takePacket
  dsimp only
  rw [if_neg receives, good]

theorem takePacket_error (s : State) (l : Fin 24) (run : List RxByte) (cause : LinkCause)
    (receives : ¬ ((s.lsv.links[l]).state = .off ∨ (s.lsv.links[l]).inhibit = true)) (fault : packetFault s.lsv.links[l] run = some cause) :
    takePacket s l run = returnError s l cause := by
  unfold takePacket
  dsimp only
  rw [if_neg receives, fault]

theorem execReturnPacketArrival_run (l : Fin 24) (first : RxByte) (more run : List RxByte) (s : State)
    (h : IsRun (rateAt s l first.start) (first :: more) run) :
    exec (.returnPacketArrival l (first :: more)) s = .next (takePacket (atTime s (arrivalTick (rateAt s l first.start) run)) l run) := by
  have cut := cutRun_of_isRun h
  have some := h.1
  show execReturnPacketArrival l (first :: more) s = _
  unfold execReturnPacketArrival heldRate
  dsimp only
  rw [cut, if_neg (by simpa using some)]

/-- The flag, the inhibit and the empty buffer of a return error (R122). -/
theorem withError_eq (r : LinkRecord) :
    r.withError .framingError = { r with framingError := true, inhibit := true, buffer := none }
    ∧ r.withError .checkError = { r with checkError := true, inhibit := true, buffer := none }
    ∧ r.withError .overrun = { r with overrun := true, inhibit := true, buffer := none } := by
  unfold LinkRecord.withError
  simp

/-- A return error at a link in FAULT makes no report. -/
theorem returnError_fault (s : State) (l : Fin 24) (cause : LinkCause) (h : (s.lsv.links[l]).state = .fault) :
    returnError s l cause = setLink s l ((s.lsv.links[l]).withError cause) := by
  have state : ((s.lsv.links[l]).withError cause).state = .fault := h
  unfold returnError
  dsimp only
  rw [if_neg (by rw [state]; decide)]

/-- A return error at an ACTIVE or RECOVER link brings it to FAULT. -/
theorem returnError_enters (s : State) (l : Fin 24) (cause : LinkCause) (h : (s.lsv.links[l]).state = .active ∨ (s.lsv.links[l]).state = .recover) :
    returnError s l cause = withReports
      { s with
        lsv := { s.lsv with links := put s.lsv.links l { (s.lsv.links[l]).withError cause with state := .fault } }
        so := { s.so with leaves := s.so.leaves ++ (if (s.lsv.links[l]).state = .active then [l] else []) } }
      [linkReport l (s.lsv.links[l]).state { (s.lsv.links[l]).withError cause with state := .fault } cause] := by
  have state : ((s.lsv.links[l]).withError cause).state = .active ∨ ((s.lsv.links[l]).withError cause).state = .recover := h
  unfold returnError
  dsimp only
  rw [if_pos state, changeLink_eq, if_neg (c := LinkState.fault = .recover ∧ _) (by simp), List.append_nil]
  simp only [ne_eq, reduceCtorEq, not_false_eq_true, and_true]

/-- Settles O55: the line, the cut, and the packet's three fates. -/
theorem returnPacketsAreReceivedOrFault : Obligations.ReturnPacketsAreReceivedOrFault := by
  unfold Obligations.ReturnPacketsAreReceivedOrFault
  refine ⟨fun start b => ⟨byteReceived_lineBits start b, rfl, rfl, rfl, lineBits_data b⟩, lineLevel_idle, lineLevel_byte, fun _ _ => rfl,
    fun l first more run s => ?_⟩
  intro rate isRun
  refine ⟨arrivalTick rate run, arrivalTick_ninth rate run, arrivalTick_idle rate run, ?_⟩
  have arrival := execReturnPacketArrival_run l first more run s isRun
  obtain ⟨tail, rfl⟩ : ∃ tail, run = first :: tail := by
    obtain ⟨some, rest, whole, -⟩ := isRun
    cases run with
    | nil => exact absurd rfl some
    | cons b tail => rw [List.cons_append] at whole; exact ⟨tail, by rw [(List.cons.inj whole).1]⟩
  have framed := framingGood_iff first tail
  rw [arrival]
  dsimp only
  rw [← framed]
  change _ ∧ _ ∧ _
  generalize arrivalTick rate (first :: tail) = tick
  refine ⟨fun ignored => ?_, fun live free good sum empty => ?_, fun cause r1 live free fault => ?_⟩
  · rw [takePacket_ignored]
    · rfl
    · exact ignored
  · have receives : ¬ ((s.lsv.links[l]).state = .off ∨ (s.lsv.links[l]).inhibit = true) := by
      rintro (h | h)
      · exact live h
      · rw [free] at h; exact absurd h (by decide)
    have accepted : packetFault s.lsv.links[l] (first :: tail) = none := by
      unfold packetFault byteSum
      rw [good, if_neg (by decide), if_neg (not_not.mpr sum), empty]
      rfl
    have second : ((first :: tail)[1]?).map (·.data) = some (((first :: tail).map (·.data)).getD 1 0) := by
      have long : 1 < (first :: tail).length := by rw [(framed.mp good).1]; decide
      rw [List.getD_eq_getElem?_getD, List.getElem?_map, List.getElem?_eq_getElem long]
      rfl
    rw [takePacket_good (atTime s tick) l (first :: tail) receives accepted, second]
    rfl
  · have receives : ¬ ((s.lsv.links[l]).state = .off ∨ (s.lsv.links[l]).inhibit = true) := by
      rintro (h | h)
      · exact live h
      · rw [free] at h; exact absurd h (by decide)
    obtain ⟨framing, check, overrun⟩ := withError_eq s.lsv.links[l]
    have failed : packetFault s.lsv.links[l] (first :: tail) = some cause ∧ r1 = (s.lsv.links[l]).withError cause := by
      unfold packetFault byteSum
      rcases fault with ⟨bad, rfl, rfl⟩ | ⟨good, sum, rfl, rfl⟩ | ⟨good, sum, full, rfl, rfl⟩
      · rw [(Bool.not_eq_true _).mp bad]
        exact ⟨rfl, framing.symm⟩
      · rw [good, if_neg (by decide), if_pos sum]
        exact ⟨rfl, check.symm⟩
      · rw [good, if_neg (by decide), if_neg (not_not.mpr sum), if_pos (Option.isSome_iff_ne_none.mpr full)]
        exact ⟨rfl, overrun.symm⟩
    obtain ⟨failed, rfl⟩ := failed
    rw [takePacket_error (atTime s tick) l (first :: tail) cause receives failed]
    refine ⟨fun state => ?_, fun state => ?_⟩
    · rw [returnError_fault (atTime s tick) l cause state]
      rfl
    · rw [returnError_enters (atTime s tick) l cause state]
      rfl

end Sys2Proof.Machine
end

section
/-! Tallies, retargets, fades and lamp frames (O57, O59, O60). -/

namespace Sys2Proof.Machine

/-! ### Tallies (R136, R137, R142, R143) -/

theorem edgeSelected_iff (mode : Nat) (high : Bool) :
    edgeSelected mode high = true ↔ mode = 3 ∨ (mode = 1 ∧ high = true) ∨ (mode = 2 ∧ high = false) := by
  unfold edgeSelected
  cases high <;> simp <;> omega

theorem getLsbD_setBit (m : BitVec 8) (i j : Fin 8) (b : Bool) : (setBit m i b).getLsbD j.val = if j = i then b else m.getLsbD j.val := by
  have one : (1#8 <<< i.val).getLsbD j.val = decide (j = i) := by
    rw [BitVec.getLsbD_shiftLeft, BitVec.getLsbD_one]
    rcases eq_or_ne j i with rfl | other
    · simp
    · have apart : j.val ≠ i.val := fun e => other (Fin.ext e)
      simp only [other, decide_false, Bool.and_eq_false_iff, Bool.not_eq_false', decide_eq_true_eq, decide_eq_false_iff_not]
      omega
  unfold setBit
  cases b with
  | true =>
    rw [if_pos rfl, BitVec.getLsbD_or, one]
    by_cases same : j = i <;> simp [same]
  | false =>
    rw [if_neg (by decide), BitVec.getLsbD_and, BitVec.getLsbD_not, one]
    by_cases same : j = i <;> simp [same]

theorem chooseCamera_none (c : Shadow) (levels : BitVec 8)
    (h : ∀ p < 8, ¬ (levels.getLsbD (c.rankAt p).val = true ∧ c.edgeMode (c.rankAt p) ≠ 0)) : chooseCamera c levels = none := by
  unfold chooseCamera Shadow.rank
  rw [List.find?_eq_none]
  intro i hi
  obtain ⟨p, below, rfl⟩ := List.mem_map.mp hi
  have := h p (List.mem_range.mp below)
  simpa using this

theorem chooseCamera_some (c : Shadow) (levels : BitVec 8) (p : Nat) (below : p < 8)
    (on : levels.getLsbD (c.rankAt p).val = true ∧ c.edgeMode (c.rankAt p) ≠ 0)
    (first : ∀ q < p, ¬ (levels.getLsbD (c.rankAt q).val = true ∧ c.edgeMode (c.rankAt q) ≠ 0)) :
    chooseCamera c levels = some (c.rankAt p) := by
  unfold chooseCamera Shadow.rank
  rw [List.find?_map, List.find?_range_eq_some.mpr ⟨by simpa using on, List.mem_range.mpr below, fun q hq => by
    by_contra h
    exact first q hq (by simpa using h)⟩]
  rfl

/-- Settles O57: the edge by its selection and flag, the sample by the camera. -/
theorem talliesChooseTheCameraAndLook : Obligations.TalliesChooseTheCameraAndLook := by
  unfold Obligations.TalliesChooseTheCameraAndLook
  refine ⟨fun i high s => ?_, fun s none => ?_, fun s n rest camera notice chosen => ?_⟩
  · have edge : exec (.tallyEdge i high) s = execTallyEdge i high s := rfl
    dsimp only
    rw [edge, ← edgeSelected_iff]
    unfold execTallyEdge
    refine ⟨fun j => ?_, fun same => if_pos same, fun changed other => ?_, fun changed selected pending => ?_, fun changed selected clear => ?_⟩
    · exact getLsbD_setBit ..
    · rw [if_neg changed]
      dsimp only
      rw [if_neg other]
    · rw [if_neg changed]
      dsimp only
      rw [if_pos selected]
      unfold selectedEdge
      dsimp only
      rw [if_pos pending]
    · rw [if_neg changed]
      dsimp only
      rw [if_pos selected]
      unfold selectedEdge
      dsimp only
      rw [if_neg (by rw [clear]; decide)]
      cases high <;> rfl
  · show execTallySample s = _
    unfold execTallySample
    rw [none]
  · have sample : exec .tallySample s = .next (tallySample { s with tu := { s.tu with frames := rest } }) := by
      show execTallySample s = _
      unfold execTallySample
      rw [notice]
    have camera_eq : chooseCamera s.cc s.tu.levels = camera := by
      rcases chosen with ⟨rfl, off⟩ | ⟨p, below, on, first, rfl⟩
      · exact chooseCamera_none _ _ off
      · exact chooseCamera_some _ _ p below on first
    rw [sample]
    unfold tallySample
    dsimp only
    rw [camera_eq]
    exact ⟨fun same => congrArg _ (if_pos same), fun changed => congrArg _ (if_neg changed)⟩

/-! ### Retargets (R72, R73, R156 to R164) -/

theorem meanQuery_none (s : State) (h : bankOnWall s = none) : meanQuery s = none := by
  unfold meanQuery
  rw [h]

theorem meanQuery_some (s : State) (k : Fin 4) (h : bankOnWall s = some k) :
    ∃ means, meanQuery s = some (k, means) ∧ ∀ z : Fin 64,
      let a := (s.banks[k]).acc[z]
      means[z] = if a.skipped = true ∨ a.count = 0 then none else some ⟨a.sum.r / a.count, a.sum.g / a.count, a.sum.b / a.count⟩ := by
  unfold meanQuery
  rw [h]
  refine ⟨_, rfl, fun z => (getElem_tabulate_fin ..).trans ?_⟩
  unfold zoneMean
  simp only [Bool.or_eq_true, beq_iff_eq]

theorem displays_iff (st : BankState) : st.displays = true ↔ st = .shown ∨ st = .resending := by cases st <;> simp [BankState.displays]

/-- The fade set for a target (R164). -/
theorem fadeTo_set (f : Fixture) (target : RGB) (clipped : Bool) (d : Nat) (hd : 1 ≤ d) : FadeSet f (f.fadeTo target clipped d) target clipped d := by
  have size (x y : Nat) : fadeStepSize x y d = (absDiff x y + d - 1) / d := by
    unfold fadeStepSize
    rw [Nat.add_sub_assoc hd]
  unfold Fixture.fadeTo
  split
  · next same => exact ⟨rfl, rfl, rfl, fun _ => ⟨rfl, rfl⟩, fun h => absurd same h⟩
  · next other => exact ⟨rfl, rfl, rfl, fun h => absurd h other, fun _ => ⟨rfl, by rw [size, size, size]⟩⟩

theorem retarget_held {f : Fixture} {entry : Vector Word 4} {q : RGB} {answer : Option (Fin 4 × Vector (Option RGB) 64)}
    (h : retargetOf entry q answer = .held) : f.retarget entry q answer = f := by
  unfold Fixture.retarget
  rw [h]

theorem retarget_to {f : Fixture} {entry : Vector Word 4} {q : RGB} {answer : Option (Fin 4 × Vector (Option RGB) 64)} {target : RGB}
    {clipped : Bool} (h : retargetOf entry q answer = .to target clipped) :
    f.retarget entry q answer = f.fadeTo target clipped (fadeLength (fixFade entry)) := by
  unfold Fixture.retarget
  rw [h]

/-- A retarget by mode and mean. -/
theorem retarget_retargeted (f : Fixture) (entry : Vector Word 4) (q : RGB) (answer : Option (Fin 4 × Vector (Option RGB) 64)) :
    Retargeted f (f.retarget entry q answer) entry q answer := by
  have pos := fadeLength_pos (fixFade entry)
  refine ⟨fadeLength (fixFade entry), fun h => ?_, fun low high => ?_, fun high => ?_, fun zone none => retarget_held ?_,
    fun k means zone found none => retarget_held ?_, fun k means mean zone found some => ?_, fun fixed => ?_, fun zone fixed => ?_⟩
  · unfold fadeLength
    rw [if_pos h]
  · unfold fadeLength
    rw [if_neg (by omega), if_pos high]
  · unfold fadeLength
    rw [if_neg (by omega), if_neg (by omega)]
  · unfold retargetOf
    rw [if_pos zone, none]
  · unfold retargetOf
    rw [if_pos zone, found]
    dsimp only
    rw [none]
  · have target : retargetOf entry q answer = zoneTarget mean q (fixTrim entry) := by
      unfold retargetOf
      rw [if_pos zone, found]
      dsimp only
      rw [some]
    unfold zoneTarget targetRaw at target
    dsimp only at target ⊢
    rw [retarget_to target]
    have clip (a b c : Nat) : (decide (65535 < a) || decide (65535 < b) || decide (65535 < c)) = decide (65535 < a ∨ 65535 < b ∨ 65535 < c) := by
      rw [← Bool.decide_or, ← Bool.decide_or]
      exact decide_eq_decide.mpr or_assoc
    rw [clip]
    exact fadeTo_set _ _ _ _ pos
  · have target : retargetOf entry q answer = .to (fixLevels entry) false := by
      unfold retargetOf
      rw [if_neg (by rw [fixed]; decide), if_pos fixed]
    rw [retarget_to target]
    exact fadeTo_set _ _ _ _ pos
  · have target : retargetOf entry q answer = .to RGB.zero false := by
      unfold retargetOf
      rw [if_neg zone, if_neg fixed]
    rw [retarget_to target]
    exact fadeTo_set _ _ _ _ pos

theorem meanQuery_congr {s u : State} (banks : u.banks = s.banks) : meanQuery u = meanQuery s := by
  unfold meanQuery bankOnWall findBank
  rw [banks]

/-- The retarget of a state that agrees with another but for the notices. -/
theorem retargetZones_fixtures {s u : State} (banks : u.banks = s.banks) (cc : u.cc = s.cc) (fixtures : u.le.fixtures = s.le.fixtures)
    (i : Fin 128) :
    (fixMode s.cc.fixtures[i] = 1 →
        Retargeted s.le.fixtures[i] (retargetZones u).le.fixtures[i] s.cc.fixtures[i] u.le.gains (meanQuery s))
      ∧ (fixMode s.cc.fixtures[i] ≠ 1 → (retargetZones u).le.fixtures[i] = s.le.fixtures[i]) := by
  unfold retargetZones
  dsimp only
  rw [getElem_tabulate_fin, meanQuery_congr banks, cc, fixtures]
  refine ⟨fun zone => ?_, fun other => if_neg other⟩
  rw [if_pos zone]
  exact retarget_retargeted ..

theorem retargetZones_only (s : State) : retargetZones s = { s with le := { s.le with fixtures := (retargetZones s).le.fixtures } } := rfl

/-- Settles O59, by the notice taken. -/
theorem noticesRetargetTheFixtures : Obligations.NoticesRetargetTheFixtures := by
  unfold Obligations.NoticesRetargetTheFixtures
  refine ⟨fun s => ⟨fun k none => ?_, meanQuery_some s, fun k found => ?_, fun none k => ?_⟩, fun s => ?_⟩
  · rw [meanQuery_none s none]
    simp
  · have shows := (findBank_spec s _).1 k found
    rw [displays_iff]
    simpa using shows.1
  · have none := (findBank_spec s _).2 none k
    rw [← Bool.not_eq_true, displays_iff]
    simpa using none
  · dsimp only
    refine ⟨fun none => ?_, fun none => ?_, fun none => ?_, fun none => ?_, fun n shows => ?_, fun q rest notice => ?_, fun q rest notice => ?_,
      fun i rest notice => ?_⟩
    · show execShowNotice s = _
      unfold execShowNotice
      rw [none]
    · refine congrArg Host.Outcome.next (?_ : takeGains .look s = s)
      rcases takeGains_cases .look s with h | ⟨g, rest, h, -⟩
      · exact h
      · exact absurd h (none g rest)
    · refine congrArg Host.Outcome.next (?_ : takeGains .lights s = s)
      rcases takeGains_cases .lights s with h | ⟨g, rest, h, -⟩
      · exact h
      · exact absurd h (none g rest)
    · show execEntryNotice s = _
      unfold execEntryNotice
      rw [none]
    · refine ⟨retargetZones { s with le := { s.le with shows := n } }, ?_, retargetZones_fixtures rfl rfl rfl, retargetZones_only _⟩
      show execShowNotice s = _
      unfold execShowNotice
      rw [shows]
    · refine ⟨retargetZones { s with le := { s.le with gainNotices := rest, gains := q } }, ?_, retargetZones_fixtures rfl rfl rfl,
        retargetZones_only _⟩
      refine congrArg Host.Outcome.next (?_ : takeGains .look s = _)
      unfold takeGains
      rw [notice]
      exact if_pos rfl
    · refine ⟨retargetZones { s with le := { s.le with gainNotices := rest, gains := q } }, ?_, retargetZones_fixtures rfl rfl rfl,
        retargetZones_only _⟩
      refine congrArg Host.Outcome.next (?_ : takeGains .lights s = _)
      unfold takeGains
      rw [notice]
      exact if_pos rfl
    · refine ⟨retargetOne { s with le := { s.le with entries := rest } } i, ?_, ?_, fun j other => put_ne _ _ _ _ other, rfl⟩
      · show execEntryNotice s = _
        unfold execEntryNotice
        rw [notice]
      · have own : (retargetOne { s with le := { s.le with entries := rest } } i).le.fixtures[i]
            = (s.le.fixtures[i]).retarget s.cc.fixtures[i] s.le.gains (meanQuery { s with le := { s.le with entries := rest } }) := put_same ..
        rw [own, meanQuery_congr (s := s) rfl]
        exact retarget_retargeted ..

end Sys2Proof.Machine
end

section
/-! The fade step and the lamp links (O60). -/

namespace Sys2Proof.Machine

/-! ### Fades (R165) -/

theorem stepComponent_stepped (x target step : Nat) : ComponentStepped x target step (stepComponent x target step) := by
  unfold ComponentStepped stepComponent
  split_ifs <;> omega

theorem stepped_still (f : Fixture) (h : f.remaining = 0) : f.stepped = f := by
  unfold Fixture.stepped
  rw [if_pos h]

theorem stepped_fading (f : Fixture) (h : f.remaining ≠ 0) :
    f.stepped = { f with remaining := f.remaining - 1, level := f.stepped.level }
      ∧ (f.remaining = 1 → f.stepped.level = f.target)
      ∧ (f.remaining ≠ 1 → ComponentStepped f.level.r f.target.r f.step.r f.stepped.level.r
          ∧ ComponentStepped f.level.g f.target.g f.step.g f.stepped.level.g
          ∧ ComponentStepped f.level.b f.target.b f.step.b f.stepped.level.b) := by
  unfold Fixture.stepped
  rw [if_neg h]
  refine ⟨rfl, fun last => if_pos last, fun more => ?_⟩
  dsimp only
  rw [if_neg more]
  exact ⟨stepComponent_stepped .., stepComponent_stepped .., stepComponent_stepped ..⟩

/-! ### Slots (R154, R175) -/

theorem covers_iff (c : Shadow) (l : Fin 2) (j : Nat) (i : Fin 128) :
    covers c l j i = true ↔ fixLink c.fixtures[i] = l ∧ fixSlot c.fixtures[i] + 6 ≤ c.lampSlots l
      ∧ fixSlot c.fixtures[i] ≤ j ∧ j < fixSlot c.fixtures[i] + 6 := by
  unfold covers placed
  simp only [Bool.and_eq_true, beq_iff_eq, decide_eq_true_eq, and_assoc]
  constructor
  · rintro ⟨rfl, fits, low, high⟩
    exact ⟨rfl, fits, low, high⟩
  · rintro ⟨rfl, fits, low, high⟩
    exact ⟨rfl, fits, low, high⟩

/-- The last of the numbers below `n` that meet a condition. -/
theorem find?_reverse_finRange {n : Nat} (p : Fin n → Bool) (i : Fin n) (hi : p i = true) (last : ∀ h, i < h → p h = false) :
    (List.finRange n).reverse.find? p = some i := by
  obtain ⟨found, e⟩ : ∃ found, (List.finRange n).reverse.find? p = found := ⟨_, rfl⟩
  have mem (k : Fin n) : k ∈ (List.finRange n).reverse := List.mem_reverse.mpr (List.mem_finRange k)
  have falling : (List.finRange n).reverse.Pairwise (· > ·) := List.pairwise_reverse.mpr (List.pairwise_lt_finRange n)
  rw [e]
  cases found with
  | none => exact absurd hi (by simpa using List.find?_eq_none.mp e i (mem i))
  | some k =>
    obtain ⟨hk, before, after, split, none⟩ := List.find?_eq_some_iff_append.mp e
    have there := mem i
    rw [split] at there falling
    rcases List.mem_append.mp there with h | h
    · exact absurd hi (by simpa using none i h)
    · rcases List.mem_cons.mp h with rfl | h
      · rfl
      · have above : k > i := (List.pairwise_cons.mp (List.pairwise_append.mp falling).2.1).1 i h
        rw [last k above] at hk
        exact absurd hk (by decide)

theorem slotByte_covered (s : State) (l : Fin 2) (j : Nat) (i : Fin 128) (on : covers s.cc l j i = true)
    (top : ∀ h : Fin 128, i < h → covers s.cc l j h = false) :
    slotByte s l j = (levelBytes (s.le.fixtures[i]).level).getD (j - fixSlot s.cc.fixtures[i]) 0 := by
  unfold slotByte
  rw [find?_reverse_finRange _ i on top]

theorem slotByte_dark (s : State) (l : Fin 2) (j : Nat) (off : ∀ i : Fin 128, covers s.cc l j i = false) : slotByte s l j = 0 := by
  unfold slotByte
  rw [List.find?_eq_none.mpr fun i _ => by rw [off i]; decide]

theorem levelBytes_getD (x : RGB) (n : Nat) :
    (levelBytes x).getD n 0 = BitVec.ofNat 8 ([x.r / 256, x.r, x.g / 256, x.g, x.b / 256, x.b].getD n 0) :=
  List.getD_map [x.r / 256, x.r, x.g / 256, x.g, x.b / 256, x.b] 0 (BitVec.ofNat 8)

theorem slotBytes_get (s : State) (l : Fin 2) (j : Nat) (h : j < s.cc.lampSlots l) : (slotBytes s l)[j]? = some (slotByte s l j) := by
  unfold slotBytes
  rw [List.getElem?_map, List.getElem?_range h]
  rfl

theorem slotBytes_length (s : State) (l : Fin 2) : (slotBytes s l).length = s.cc.lampSlots l := by
  unfold slotBytes
  rw [List.length_map, List.length_range]

/-! ### Frames for both links (R170, R176) -/

theorem staged_eq (x : LampLink) (frame : List Byte) :
    x.staged frame = { x with stage := some frame, replaced := if x.stage = none then x.replaced else x.replaced + 1 } := by
  unfold LampLink.staged
  cases x.stage <;> rfl

/-- The lamp link after its frame is composed. -/
theorem composeLamp_own (s : State) (l : Fin 2) :
    (s.cc.lampEnable l = false → (composeLamp s l).lamps[l] = s.lamps[l])
      ∧ (s.cc.lampEnable l = true → (composeLamp s l).lamps[l] = (s.lamps[l]).staged (lampFrame (slotBytes s l))) := by
  unfold composeLamp
  refine ⟨fun off => ?_, fun on => ?_⟩
  · rw [if_neg (by rw [off]; decide)]
  · rw [if_pos on]
    exact put_same ..

theorem composeLamp_other (s : State) (l j : Fin 2) (h : j ≠ l) : (composeLamp s l).lamps[j] = s.lamps[j] := by
  unfold composeLamp
  split
  · exact put_ne _ _ _ _ h
  · rfl

theorem composeLamp_only (s : State) (l : Fin 2) : composeLamp s l = { s with lamps := (composeLamp s l).lamps } := by
  unfold composeLamp
  split <;> rfl

/-- Both lamp links after the composition. -/
theorem composeBoth (s : State) (l : Fin 2) :
    (s.cc.lampEnable l = false → (composeLamp (composeLamp s 0) 1).lamps[l] = s.lamps[l])
      ∧ (s.cc.lampEnable l = true → (composeLamp (composeLamp s 0) 1).lamps[l] = (s.lamps[l]).staged (lampFrame (slotBytes s l))) := by
  obtain rfl | rfl : l = 0 ∨ l = 1 := by omega
  · rw [composeLamp_other _ 1 0 (by decide)]
    exact composeLamp_own s 0
  · have own := composeLamp_own (composeLamp s 0) 1
    have slots : slotBytes (composeLamp s 0) 1 = slotBytes s 1 := by
      rw [composeLamp_only]
      rfl
    have cc : (composeLamp s 0).cc = s.cc := by rw [composeLamp_only]
    rw [slots, cc, composeLamp_other s 0 1 (by decide)] at own
    exact own

theorem composeBoth_only (s : State) :
    composeLamp (composeLamp s 0) 1 = { s with lamps := (composeLamp (composeLamp s 0) 1).lamps } := by
  rw [composeLamp_only (composeLamp s 0) 1]
  rw [composeLamp_only s 0]

/-! ### Units (R177) -/

theorem nextLampUnit_off (s : State) (l : Fin 2) (h : s.cc.lampEnable l = false) : nextLampUnit s l = setLamp s l { s.lamps[l] with shift := .empty } := by
  unfold nextLampUnit
  rw [h]
  rfl

theorem nextLampUnit_fill (s : State) (l : Fin 2) (h : s.cc.lampEnable l = true) (stage : (s.lamps[l]).stage = none) :
    nextLampUnit s l = beginFill s l := by
  unfold nextLampUnit
  rw [h, if_neg (by decide), stage]

theorem nextLampUnit_frame (s : State) (l : Fin 2) (frame : List Byte) (h : s.cc.lampEnable l = true) (stage : (s.lamps[l]).stage = some frame) :
    nextLampUnit s l = beginLampFrame s l frame := by
  unfold nextLampUnit
  rw [h, if_neg (by decide), stage]

/-- The frame of a link's slots, as the table of section 10.8.7 lays it out. -/
theorem slots_spec (s : State) (l : Fin 2) :
    (slotBytes s l).length = s.cc.lampSlots l
      ∧ (∀ j < s.cc.lampSlots l,
          (∀ i : Fin 128, covers s.cc l j i = true → (∀ h : Fin 128, i < h → covers s.cc l j h = false) →
            let x := (s.le.fixtures[i]).level
            let v := [x.r / 256, x.r, x.g / 256, x.g, x.b / 256, x.b]
            (slotBytes s l)[j]? = some (BitVec.ofNat 8 (v.getD (j - fixSlot s.cc.fixtures[i]) 0)))
          ∧ ((∀ i : Fin 128, covers s.cc l j i = false) → (slotBytes s l)[j]? = some 0)) := by
  refine ⟨slotBytes_length s l, fun j inside => ⟨fun i on top => ?_, fun off => ?_⟩⟩
  · dsimp only
    rw [slotBytes_get s l j inside, slotByte_covered s l j i on top, levelBytes_getD]
  · rw [slotBytes_get s l j inside, slotByte_dark s l j off]

/-- Settles O60: the fade step, the frames of both lamp links, and the units that follow. -/
theorem fadesStepAndLampsAreSent : Obligations.FadesStepAndLampsAreSent := by
  unfold Obligations.FadesStepAndLampsAreSent
  refine ⟨fun s none => ?_, fun s n rest notice => ?_, covers_iff, fun s l => ⟨fun empty => ?_, fun ends busy => ?_⟩⟩
  · show execFadeStep s = _
    unfold execFadeStep
    rw [none]
  · have fade : exec .fadeStep s = .next (lightingFrame { s with le := { s.le with frames := rest } } n) := by
      show execFadeStep s = _
      unfold execFadeStep
      rw [notice]
    refine ⟨_, fade, ?_⟩
    have faded : ∃ u : State, (if n.lock = .lost then { s with le := { s.le with frames := rest } }
          else stepFixtures { s with le := { s.le with frames := rest } }) = u
        ∧ (n.lock = .lost → u.le.fixtures = s.le.fixtures)
        ∧ (n.lock ≠ .lost → ∀ i : Fin 128, u.le.fixtures[i] = (s.le.fixtures[i]).stepped)
        ∧ u = { s with le := { s.le with frames := rest, fixtures := u.le.fixtures } } := by
      by_cases lost : n.lock = .lost
      · rw [if_pos lost]
        exact ⟨_, rfl, fun _ => rfl, fun h => absurd lost h, rfl⟩
      · rw [if_neg lost]
        exact ⟨_, rfl, fun h => absurd h lost, fun _ i => getElem_tabulate_fin .., rfl⟩
    obtain ⟨u, stepped, lost, steps, only⟩ := faded
    unfold lightingFrame
    dsimp only
    rw [stepped, composeBoth_only u]
    dsimp only
    refine ⟨lost, fun live i => ?_, fun l => ⟨fun off => ?_, fun on => ?_⟩, ?_⟩
    · rw [steps live i]
      exact ⟨stepped_still _, stepped_fading _⟩
    · have lamp := (composeBoth u l).1 (by rw [only]; exact off)
      rw [lamp, only]
    · have lamp := (composeBoth u l).2 (by rw [only]; exact on)
      have slots := slots_spec u l
      rw [staged_eq] at lamp
      have cc : u.cc = s.cc := by rw [only]
      have lamps : u.lamps = s.lamps := by rw [only]
      rw [cc] at slots
      rw [lamps] at lamp
      exact ⟨slotBytes u l, slots.1, slots.2, lamp⟩
    · rw [only]
  · show execLampUnitFinish l s = _
    unfold execLampUnitFinish
    rw [empty]
  · have finish : exec (.lampUnitFinish l) s = .next (nextLampUnit (atTime s ends) l) := by
      show execLampUnitFinish l s = _
      unfold execLampUnitFinish
      rcases busy with h | ⟨bytes, h⟩ <;> rw [h]
    rw [finish]
    refine ⟨fun off => ?_, fun on stage => ?_, fun frame on stage => ?_⟩
    · rw [nextLampUnit_off (atTime s ends) l off]
      rfl
    · rw [nextLampUnit_fill (atTime s ends) l on stage]
      rfl
    · rw [nextLampUnit_frame (atTime s ends) l frame on stage]
      rfl

end Sys2Proof.Machine
end

section
/-! The arbiter's choice (O39). -/

namespace Sys2Proof.Machine

/-- The element found is the one of those that meet a condition that stands first. -/
theorem find?_eq_first {α : Type} [DecidableEq α] (p : α → Bool) (l : List α) (c : α) (mem : c ∈ l) (hc : p c = true)
    (first : ∀ d ∈ l, p d = true → l.idxOf c ≤ l.idxOf d) : l.find? p = some c := by
  obtain ⟨found, e⟩ : ∃ found, l.find? p = found := ⟨_, rfl⟩
  rw [e]
  cases found with
  | none => exact absurd hc (by simpa using List.find?_eq_none.mp e c mem)
  | some d =>
    obtain ⟨hd, before, after, split, none⟩ := List.find?_eq_some_iff_append.mp e
    have fresh : d ∉ before := fun h => by simpa [hd] using none d h
    have position : l.idxOf d = before.length := by
      rw [split, List.idxOf_append_of_notMem fresh, List.idxOf_cons_self, Nat.add_zero]
    have least := first d (List.mem_of_find?_eq_some e) hd
    have early : c ∉ before := fun h => by simpa [hc] using none c h
    rw [position, split, List.idxOf_append_of_notMem early] at least
    have zero : (d :: after).idxOf c = 0 := by omega
    rcases eq_or_ne d c with rfl | other
    · rfl
    · rw [List.idxOf_cons_ne _ other] at zero
      exact absurd zero (Nat.succ_ne_zero _)

theorem urgent_iff (s : State) : urgent s = true ↔ ∃ l : Fin 24, (s.so.links[l]).starved = true := by
  unfold urgent
  rw [List.any_eq_true]
  exact exists_congr fun l => and_iff_right (List.mem_finRange l)

theorem waiting_copy_iff (s : State) : waiting s .copy = true ↔ s.copy = .wantRead ∨ ∃ buffer, s.copy = .wantWrite buffer := by
  unfold waiting
  cases s.copy <;> simp

theorem waiting_report_iff (s : State) : waiting s .report = true ↔ s.rw.claim ≠ none := Option.isSome_iff_ne_none

theorem inMemory_iff (a : Access) : inMemory a = true ↔ ∀ x ∈ a.addrs, x < 4294967296 := by
  unfold inMemory
  rw [List.all_eq_true]
  exact forall₂_congr fun x _ => decide_eq_true_iff

/-- With no claim the arbiter chooses none. -/
theorem arbiterChoice_none {s : State} (h : ∀ c, waiting s c = false) : arbiterChoice s = none := by
  unfold arbiterChoice
  dsimp only
  rw [h .scanOut, Bool.and_false, if_neg (by decide), List.find?_eq_none.mpr fun c _ => by simp [h c]]
  exact List.find?_eq_none.mpr fun c _ => by rw [h c]; decide

/-- The claimant that R51 names is the arbiter's choice. -/
theorem arbiterChoice_first {s : State} {c : Claimant} (waits : waiting s c = true)
    (pressing : urgent s = true → waiting s .scanOut = true → c = .scanOut)
    (first : ¬ (urgent s = true ∧ waiting s .scanOut = true) →
      (s.passed.get c = 16 ∨ ∀ d, waiting s d = true → s.passed.get d ≠ 16)
      ∧ ∀ d, waiting s d = true → (s.passed.get c = 16 → s.passed.get d = 16) →
          (claimOrder s.cc.orderCode).idxOf c ≤ (claimOrder s.cc.orderCode).idxOf d) :
    arbiterChoice s = some c := by
  unfold arbiterChoice
  dsimp only
  by_cases press : urgent s = true ∧ waiting s .scanOut = true
  · rw [press.1, press.2, pressing press.1 press.2]
    rfl
  · obtain ⟨age, least⟩ := first press
    have listed := claimOrder_complete s.cc.orderCode
    rw [if_neg (by rwa [Bool.and_eq_true])]
    have old (d : Claimant) : (waiting s d && aged s d) = true ↔ waiting s d = true ∧ s.passed.get d = 16 := by
      unfold aged
      rw [Bool.and_eq_true, beq_iff_eq]
    by_cases aged16 : s.passed.get c = 16
    · rw [find?_eq_first _ _ c (listed c) ((old c).mpr ⟨waits, aged16⟩) fun d _ hd => least d ((old d).mp hd).1 fun _ => ((old d).mp hd).2]
    · have young := age.resolve_left aged16
      rw [List.find?_eq_none.mpr fun d _ hd => young d ((old d).mp hd).1 ((old d).mp hd).2]
      exact find?_eq_first _ _ c (listed c) waits fun d _ hd => least d hd fun h => absurd h aged16

theorem isFree_iff (c : Channel) : c.isFree = true ↔ c = .free := by cases c <;> simp [Channel.isFree]

/-- Settles O39: a busy channel, no claim, or the first claimant. -/
theorem arbiterGrantsTheFirstClaimInOrder : Obligations.ArbiterGrantsTheFirstClaimInOrder := by
  unfold Obligations.ArbiterGrantsTheFirstClaimInOrder
  refine ⟨⟨rfl, rfl, rfl, rfl, rfl, rfl⟩, urgent_iff, fun s => ⟨rfl, rfl, waiting_copy_iff s, waiting_report_iff s⟩, fun tick s => ?_⟩
  have grants : exec (.arbiterGrant tick) s = execArbiterGrant tick s := rfl
  dsimp only
  rw [grants]
  unfold execArbiterGrant
  dsimp only
  rw [show (atTime s tick).channel = s.channel from rfl]
  refine ⟨fun busy => ?_, fun free idle => ?_, fun c free waits pressing first => ?_⟩
  · rw [if_neg fun h => busy ((isFree_iff _).mp h)]
    rfl
  · rw [if_pos ((isFree_iff _).mpr free), arbiterChoice_none (s := atTime s tick)]
    · rfl
    · intro c
      have same : waiting (atTime s tick) c = waiting s c := by cases c <;> rfl
      rw [same, idle c]
  · have same (d : Claimant) : waiting (atTime s tick) d = waiting s d := by cases d <;> rfl
    have choice : arbiterChoice (atTime s tick) = some c := by
      refine arbiterChoice_first ((same c).trans waits) pressing fun h => ⟨(first h).1.imp_right fun a d hd => a d ((same d).symm.trans hd), ?_⟩
      exact fun d hd => (first h).2 d ((same d).symm.trans hd)
    rw [if_pos ((isFree_iff _).mpr free), choice]
    dsimp only
    refine ⟨(passOver (atTime s tick) c).passed, fun d => ?_, fun inside => ?_, fun outside => ?_⟩
    · rw [get_passOver]
      unfold passCount
      rw [same d]
      rfl
    · exact if_pos ((inMemory_iff _).mpr inside)
    · exact if_neg fun h => outside ((inMemory_iff _).mp h)

end Sys2Proof.Machine
end

section
/-! Data that comes back, and the channel freed (O41, O42). -/

namespace Sys2Proof.Machine

/-! ### The data of a READ (R33, R35, R40) -/

/-- The addresses of the bytes that a READ takes from its own addresses. -/
def ownAddrs (picks : List Pick) : List Nat := (picks.filter (·.first)).map (·.addr)

/-- The addresses of the bytes that a READ takes from a bank. -/
def bankAddrs (picks : List Pick) : List Nat := (picks.filter fun p => !p.first).map (·.addr)

theorem any_first_iff (picks : List Pick) : picks.any (·.first) = true ↔ ownAddrs picks ≠ [] := by
  unfold ownAddrs
  rw [Ne, List.map_eq_nil_iff, List.filter_eq_nil_iff, List.any_eq_true]
  push Not
  rfl

theorem any_bank_iff (picks : List Pick) : (picks.any fun p => !p.first) = true ↔ bankAddrs picks ≠ [] := by
  unfold bankAddrs
  rw [Ne, List.map_eq_nil_iff, List.filter_eq_nil_iff, List.any_eq_true]
  push Not
  rfl

/-- The bytes of both accesses, each as its access read it, in the order of the picks. -/
theorem assembleRead_eq (m1 m2 : Memory) (x y : List Byte) (picks : List Pick) :
    assembleRead picks (Memory.readAll m1 (ownAddrs picks) ++ x) (Memory.readAll m2 (bankAddrs picks) ++ y)
      = picks.map fun p => if p.first = true then Memory.read m1 p.addr else Memory.read m2 p.addr := by
  induction picks with
  | nil => rfl
  | cons p ps ih =>
    unfold assembleRead
    by_cases own : p.first = true
    · have first : ownAddrs (p :: ps) = p.addr :: ownAddrs ps := by simp [ownAddrs, own]
      have second : bankAddrs (p :: ps) = bankAddrs ps := by simp [bankAddrs, own]
      rw [if_pos own, first, second, List.map_cons, if_pos own, ← ih]
      rfl
    · have first : ownAddrs (p :: ps) = ownAddrs ps := by simp [ownAddrs, own]
      have second : bankAddrs (p :: ps) = p.addr :: bankAddrs ps := by simp [bankAddrs, own]
      rw [if_neg own, first, second, List.map_cons, if_neg own, ← ih]
      rfl

theorem readMore_iff (picks : List Pick) (got : Option (List Byte)) :
    readMore picks got = true ↔ got = none ∧ ownAddrs picks ≠ [] ∧ bankAddrs picks ≠ [] := by
  unfold readMore
  rw [Bool.and_eq_true, Bool.and_eq_true, any_first_iff, any_bank_iff, Option.isNone_iff_eq_none, and_assoc]

/-- The port's data is on the channel while it waits for it. -/
theorem execReadDataReturn_data (tick : Nat) (s : State) (data : List Byte) (picks : List Pick) (got : Option (List Byte))
    (channel : s.channel = .spRead data) (phase : s.port.phase = .readAccess picks got) :
    exec (.readDataReturn tick) s = .next (readReturned (freeChannel (atTime s tick)) picks got data) := by
  have channel' : (atTime s tick).channel = .spRead data := channel
  have phase' : (atTime s tick).port.phase = .readAccess picks got := phase
  show execReadDataReturn tick s = _
  unfold execReadDataReturn
  dsimp only
  rw [channel', phase']

theorem readReturned_more (s : State) (picks : List Pick) (data : List Byte) (own : ownAddrs picks ≠ []) (bank : bankAddrs picks ≠ []) :
    readReturned s picks none data = spNext s (.readAccess picks (some data)) := by
  unfold readReturned
  rw [if_pos ((readMore_iff _ _).mpr ⟨rfl, own, bank⟩)]

theorem readReturned_last (s : State) (picks : List Pick) (own data : List Byte) :
    readReturned s picks (some own) data = settlePort (finishRequest s (.data (assembleRead picks own data))) := by
  unfold readReturned
  rw [if_neg fun h => absurd ((readMore_iff _ _).mp h).1 (by simp)]

theorem readReturned_only (s : State) (picks : List Pick) (data : List Byte) (one : ownAddrs picks = [] ∨ bankAddrs picks = []) :
    readReturned s picks none data
      = settlePort (finishRequest s (.data (assembleRead picks (if picks.any (·.first) then data else []) data))) := by
  unfold readReturned
  rw [if_neg]
  intro h
  obtain ⟨-, own, bank⟩ := (readMore_iff _ _).mp h
  exact one.elim own bank

/-- Settles O41, by the accesses that the READ makes. -/
theorem readsReturnTheirBytesInOrder : Obligations.ReadsReturnTheirBytesInOrder := by
  unfold Obligations.ReadsReturnTheirBytesInOrder
  intro tick s picks m1 m2
  change (ownAddrs picks ≠ [] → bankAddrs picks ≠ [] → _) ∧ (ownAddrs picks ≠ [] → bankAddrs picks ≠ [] → _) ∧ (bankAddrs picks = [] → _)
    ∧ (ownAddrs picks = [] → _) ∧ _
  refine ⟨fun own bank channel phase => ?_, fun own bank channel phase => ?_, fun bank channel phase => ?_, fun own channel phase => ?_,
    fun none => ?_⟩
  · rw [execReadDataReturn_data tick s _ picks _ channel phase, readReturned_more _ _ _ own bank]
    rfl
  · have bytes := assembleRead_eq m1 m2 [] [] picks
    rw [List.append_nil, List.append_nil] at bytes
    rw [execReadDataReturn_data tick s _ picks _ channel phase, readReturned_last]
    exact congrArg (fun b => Host.Outcome.next (settlePort (finishRequest (freeChannel (atTime s tick)) (.data b)))) bytes
  · have data : (if picks.any (·.first) then Memory.readAll m1 (ownAddrs picks) else []) = Memory.readAll m1 (ownAddrs picks) := by
      split
      · rfl
      · next none =>
        rw [any_first_iff, not_not] at none
        rw [none]
        rfl
    have bytes := assembleRead_eq m1 m1 [] (Memory.readAll m1 (ownAddrs picks)) picks
    rw [bank, List.append_nil] at bytes
    simp only [ite_self] at bytes
    rw [execReadDataReturn_data tick s _ picks _ channel phase, readReturned_only _ _ _ (.inr bank)]
    exact congrArg (fun b => Host.Outcome.next (settlePort (finishRequest (freeChannel (atTime s tick)) (.data b)))) ((congrArg (assembleRead picks · _) data).trans bytes)
  · have data : (if picks.any (·.first) then Memory.readAll m2 (bankAddrs picks) else []) = [] := by
      rw [if_neg]
      rw [any_first_iff, not_not]
      exact own
    have bytes := assembleRead_eq m2 m2 [] [] picks
    rw [own, List.append_nil, List.append_nil] at bytes
    simp only [ite_self] at bytes
    rw [execReadDataReturn_data tick s _ picks _ channel phase, readReturned_only _ _ _ (.inl own)]
    exact congrArg (fun b => Host.Outcome.next (settlePort (finishRequest (freeChannel (atTime s tick)) (.data b)))) ((congrArg (assembleRead picks · _) data).trans bytes)
  · show execReadDataReturn tick s = _
    unfold execReadDataReturn
    dsimp only
    split
    · next data _ _ channel _ => exact absurd channel (none data)
    · next channel _ => exact absurd channel (none _)
    · rfl

/-! ### Completions (R18, R22, R45, R49, R65, R67) -/

theorem length_mergeBytes (old : List Byte) (lanes : List Lane) : (mergeBytes old lanes).length = old.length := by
  unfold mergeBytes
  rw [List.length_map, List.length_range]

theorem mergeBytes_get (old : List Byte) (lanes : List Lane) (i : Nat) (h : i < old.length) :
    (mergeBytes old lanes)[i]? = some (((lanes[i]?).getD none).getD (old.getD i 0)) := by
  unfold mergeBytes
  rw [List.getElem?_map, List.getElem?_range h]
  rfl

theorem swapSegment_acc (columns : Nat) (b : Bank) (seg : Nat) (old new : List Byte) (z : Fin 64) :
    (swapSegment columns b seg old new).acc[z] =
      if segmentInZone columns b.geom[z] seg = true then (b.acc[z]).swap (b.geom[z]).clip old new else b.acc[z] := getElem_tabulate_fin ..

/-- The bank of a held write whose old content has come back. -/
def mergedBank (columns : Nat) (b : Bank) (seg : Nat) (rewrite : Bool) (old new : List Byte) : Bank :=
  if rewrite = true then swapSegment columns b seg old new else addSegment columns b seg new

theorem mergedBank_acc (columns : Nat) (b : Bank) (seg : Nat) (rewrite : Bool) (old new : List Byte) (z : Fin 64) :
    (mergedBank columns b seg rewrite old new).acc[z] =
      if segmentInZone columns b.geom[z] seg = true then
        (if rewrite = true then (b.acc[z]).swap (b.geom[z]).clip old new else (b.acc[z]).plus (b.geom[z]).clip new)
      else b.acc[z] := by
  unfold mergedBank
  cases rewrite with
  | true => exact swapSegment_acc ..
  | false => exact addSegment_acc ..

theorem mergedBank_only (columns : Nat) (b : Bank) (seg : Nat) (rewrite : Bool) (old new : List Byte) :
    mergedBank columns b seg rewrite old new = { b with acc := (mergedBank columns b seg rewrite old new).acc } := by
  unfold mergedBank
  cases rewrite <;> rfl

/-- Settles O42, by the access on the channel. -/
theorem completionsFreeTheChannel : Obligations.CompletionsFreeTheChannel := by
  unfold Obligations.CompletionsFreeTheChannel
  intro s
  have write : exec .memoryWriteComplete s = execMemoryWriteComplete s := rfl
  have copyRead : exec .copyReadDataReturn s = execCopyReadDataReturn s := rfl
  have preRead : exec .preReadDataReturn s = execPreReadDataReturn s := rfl
  rw [write, copyRead, preRead]
  refine ⟨fun undo channel => ?_, fun other => ?_, fun data channel => ?_, fun data channel copy => ?_, fun other => ?_,
    fun old bank src seg lanes rewrite channel phase long => ?_, fun other => ?_⟩
  · unfold execMemoryWriteComplete
    rw [channel]
    rfl
  · unfold execMemoryWriteComplete
    split
    · next undo channel => exact absurd channel (other undo)
    · rfl
  · unfold execCopyReadDataReturn
    rw [channel]
    rfl
  · unfold execCopyReadDataReturn
    rw [channel]
    dsimp only
    rw [copy]
    rfl
  · unfold execCopyReadDataReturn
    split
    · next data d channel => exact absurd channel (other data d)
    · rfl
  · have returned : execPreReadDataReturn s = .next (spNext (setBank (freeChannel s) bank
        (mergedBank s.cc.columns s.banks[bank] seg rewrite old (mergeBytes old lanes))) (.mergedWrite bank seg (mergeBytes old lanes))) := by
      unfold execPreReadDataReturn
      rw [channel, phase]
      rfl
    have own : (put s.banks bank (mergedBank s.cc.columns s.banks[bank] seg rewrite old (mergeBytes old lanes)))[bank]
        = mergedBank s.cc.columns s.banks[bank] seg rewrite old (mergeBytes old lanes) := put_same ..
    refine ⟨mergeBytes old lanes, _, returned, (length_mergeBytes old lanes).trans long, fun i h => mergeBytes_get old lanes i (by omega),
      fun z => ?_, ?_, fun j other => put_ne _ _ _ _ other, rfl⟩
    · exact (congrArg (fun b : Bank => b.acc[z]) own).trans (mergedBank_acc ..)
    · exact own.trans ((mergedBank_only ..).trans (congrArg (fun b : Bank => { s.banks[bank] with acc := b.acc }) own.symm))
  · unfold execPreReadDataReturn
    split
    · next channel _ => exact absurd channel (other _)
    · next channel _ => exact absurd channel (other _)
    · rfl

end Sys2Proof.Machine
end

section
/-! Reports become records, and the Report claims (O46). -/

namespace Sys2Proof.Machine

/-! ### Taking a report (R193) -/

theorem execReportTaken_of_split (s : State) (m : Maker) (pre post : List Report) (r : Report) (reports : s.rw.reports = pre ++ r :: post)
    (mine : r.kind.maker = m) (others : ∀ x ∈ pre, x.kind.maker ≠ m) :
    execReportTaken m s = .next (takeReport { s with rw := { s.rw with reports := pre ++ post } } r) := by
  have own : madeBy m r = true := by simp [madeBy, mine]
  have foreign : ∀ x ∈ pre, ¬ madeBy m x = true := by simpa [madeBy] using others
  unfold execReportTaken
  rw [reports, List.find?_append, List.find?_eq_none.mpr foreign, List.find?_cons_of_pos own,
    List.eraseP_append_right _ foreign, List.eraseP_cons_of_pos own]
  rfl

theorem recordOf_w0 (s : State) (r : Report) :
    (recordOf s r).w0 = BitVec.ofNat 32 (r.kind.code + 128 * bit s.rw.lost + 256 * r.subject.toNat) := by
  have lost := bit_le s.rw.lost
  have code : r.kind.code ≤ 9 := by cases r.kind <;> decide
  show pack [(r.kind.code, 0), (bit s.rw.lost, 7), (r.subject.toNat, 8)] = _
  rw [pack_eq]
  · simp [fieldSum]
  · simp only [fieldsFit, and_true]
    omega

theorem takeReport_discarded (s : State) (r : Report) (h : s.cc.kindEnabled r.kind.code = false ∨ s.cc.ringCode = 0) :
    takeReport s r = s := by
  unfold takeReport
  rcases h with h | h
  · rw [h]
    rfl
  · rw [if_pos h, ite_self]

theorem takeReport_enabled (s : State) (r : Report) (enabled : s.cc.kindEnabled r.kind.code = true) (on : s.cc.ringCode ≠ 0) :
    takeReport s r = if (s.rw.alloc + 1) % s.cc.ringSize = s.rw.cons ∨ 64 ≤ s.rw.queue.length
      then { s with rw := { s.rw with lost := true } }
      else rwRaise { s with rw := { s.rw with
        queue := s.rw.queue ++ [recordOf s r], lost := false, alloc := (s.rw.alloc + 1) % s.cc.ringSize } } := by
  unfold takeReport ringFull
  rw [enabled, if_neg (by decide), if_neg on]
  simp only [Bool.or_eq_true, beq_iff_eq, decide_eq_true_eq]

/-! ### The Report claims (R194, R196, R197) -/

theorem cellsFrom_eq (base : Nat) {bytes : List Byte} {n : Nat} (f : Nat → Byte) (len : bytes.length = n)
    (get : ∀ i, i < n → bytes.getD i 0 = f i) : cellsFrom base bytes = (List.range n).map fun i => (base + i, f i) := by
  unfold cellsFrom
  rw [len]
  exact List.map_congr_left fun i h => by rw [get i (List.mem_range.mp h)]

/-- The bytes of a status block part: the producer index stands where the image's word 0x21C is. -/
theorem partCells_eq (s : State) (i : Fin 4) :
    partCells s i = (List.range 64).map (fun o => (controlBase s.straps + 0x200 + 64 * i.val + o,
      if i = 0 ∧ 0x1C ≤ o ∧ o < 0x20 then (BitVec.ofNat 32 s.rw.prod).extractLsb' (8 * (o - 0x1C)) 8
      else s.rw.image.getD (64 * i.val + o) 0)) := by
  have image (o : Nat) (h : o < 64) : ((List.range 64).map fun j => s.rw.image.getD (64 * i.val + j) 0).getD o 0 = s.rw.image.getD (64 * i.val + o) 0 := by
    simp [List.getD_eq_getElem?_getD, h]
  unfold partCells
  dsimp only
  by_cases first : i = 0
  · rw [if_pos first]
    refine cellsFrom_eq _ _ (by simp [bytesOf]) fun o h => ?_
    have word (j : Nat) (hj : j < 4) : (bytesOf (BitVec.ofNat 32 s.rw.prod)).getD j 0 = (BitVec.ofNat 32 s.rw.prod).extractLsb' (8 * j) 8 := by
      interval_cases j <;> rfl
    rw [← image o h]
    generalize long : ((List.range 64).map fun j => s.rw.image.getD (64 * i.val + j) 0) = bytes
    have len : bytes.length = 64 := by rw [← long, List.length_map, List.length_range]
    by_cases below : o < 28
    · rw [if_neg (by omega), List.append_assoc, List.getD_append _ _ _ _ (by simp [len, below]), List.getD_eq_getElem?_getD,
        List.getElem?_take_of_lt below, List.getD_eq_getElem?_getD]
    · have front : (bytes.take 28).length = 28 := by rw [List.length_take, len]; rfl
      rw [List.append_assoc, List.getD_append_right _ _ _ _ (by omega), front]
      by_cases inside : o < 32
      · rw [if_pos ⟨first, by omega, inside⟩, ← word (o - 28) (by omega), List.getD_append _ _ _ _ (by show o - 28 < 4; omega)]
      · rw [if_neg (by omega), List.getD_append_right _ _ _ _ (by show 4 ≤ o - 28; omega), List.getD_eq_getElem?_getD,
          List.getElem?_drop, List.getD_eq_getElem?_getD]
        congr 2
        show 32 + (o - 28 - 4) = o
        omega
  · rw [if_neg first]
    refine cellsFrom_eq _ _ (by simp) fun o h => ?_
    rw [if_neg fun both => first both.1]
    exact image o h

theorem grantReport_eq (s : State) (c : RwClaim) (claim : s.rw.claim = some c) (cells : List Host.Cell) (w : ReportWriter)
    (access : reportAccess s = .write cells) (follow : reportFollow (placeWrite s cells) c = { placeWrite s cells with rw := w }) :
    grant s .report = { placeWrite s cells with rw := { w with claim := nextRwClaim { placeWrite s cells with rw := w } } } := by
  show grantReport s = _
  unfold grantReport
  rw [claim, access]
  dsimp only [place]
  rw [follow, rwRaise_spec]
  rfl

theorem firstOutstanding_eq_some (s : State) (i : Fin 4) (own : s.rw.outstanding[i] = true)
    (lower : ∀ j : Fin 4, j < i → s.rw.outstanding[j] = false) : firstOutstanding s = some i := by
  unfold firstOutstanding
  rw [List.find?_eq_some_iff_getElem]
  refine ⟨own, i.val, by simp, by simp, fun j hj => ?_⟩
  rw [List.getElem_finRange, Bool.not_eq_true']
  exact lower _ hj

theorem firstOutstanding_eq_none (s : State) (empty : ∀ i : Fin 4, s.rw.outstanding[i] = false) : firstOutstanding s = none := by
  unfold firstOutstanding
  exact List.find?_eq_none.mpr fun i _ => Bool.eq_false_iff.mp (empty i)

/-- Settles O46, by the report's fate and by the granted claim. -/
theorem reportsBecomeRecordsInOrder : Obligations.ReportsBecomeRecordsInOrder := by
  unfold Obligations.ReportsBecomeRecordsInOrder
  refine ⟨fun s m pre post r reports mine others => ?_, fun s m others => ?_, fun s => ⟨fun v claim owed => ?_, fun i claim => ?_,
    fun r rest claim queue => ?_⟩, fun s => ⟨fun owed => ?_, fun i owed own lower => ?_, fun owed parts queue => ?_,
    fun owed parts queue => ?_, ?_⟩⟩
  · have taken : exec (.reportTaken m) s = _ := execReportTaken_of_split s m pre post r reports mine others
    rw [taken]
    dsimp only
    refine ⟨fun h => congrArg _ (takeReport_discarded _ r h), fun enabled on full => ?_, fun enabled on room => ?_⟩
    · exact congrArg _ ((takeReport_enabled { s with rw := { s.rw with reports := pre ++ post } } r enabled on).trans (if_pos full))
    · refine congrArg _ (((takeReport_enabled { s with rw := { s.rw with reports := pre ++ post } } r enabled on).trans (if_neg room)).trans ?_)
      rw [rwRaise_spec, ← recordOf_w0]
      cases claim : s.rw.claim <;> rfl
  · show execReportTaken m s = _
    unfold execReportTaken
    rw [List.find?_eq_none.mpr (by simpa [madeBy] using others)]
  · refine grantReport_eq s .index claim _ _ ?_ ?_
    · unfold reportAccess
      rw [claim]
      dsimp only
      rw [owed]
      rfl
    · unfold reportFollow
      dsimp only [placeWrite]
      rw [owed]
      rfl
  · have access : reportAccess s = .write (partCells s i) := by
      unfold reportAccess
      rw [claim]
    refine ⟨partCells s i, access, partCells_eq s i, ?_⟩
    have follow : reportFollow (placeWrite s (partCells s i)) (.part i)
        = { placeWrite s (partCells s i) with rw := { s.rw with outstanding := s.rw.outstanding.set i.val false } } := rfl
    rw [grantReport_eq s (.part i) claim (partCells s i) _ access follow]
    rfl
  · have access : reportAccess s = .write (recordCells s r) := by
      unfold reportAccess
      rw [claim]
      dsimp only
      rw [queue]
    have follow : reportFollow (placeWrite s (recordCells s r)) .record = { placeWrite s (recordCells s r) with
        rw := { s.rw with queue := rest, owed := some ((r.slot + 1) % s.cc.ringSize) } } := by
      unfold reportFollow
      dsimp only [placeWrite]
      rw [queue]
    rw [grantReport_eq s .record claim (recordCells s r) _ access follow]
    dsimp only [placeWrite, recordCells]
  · unfold nextRwClaim
    rw [if_pos (Option.isSome_iff_ne_none.mpr owed)]
  · unfold nextRwClaim
    rw [owed, firstOutstanding_eq_some s i own lower]
    rfl
  · unfold nextRwClaim
    rw [owed, firstOutstanding_eq_none s parts]
    cases h : s.rw.queue with
    | nil => exact absurd h queue
    | cons r rest => rfl
  · unfold nextRwClaim
    rw [owed, firstOutstanding_eq_none s parts, queue]
    rfl
  · simp [State.attention, Shadow.attentionEnable]

end Sys2Proof.Machine
end

section
/-! The segments that the Scan-Out Engine reads, and what becomes of their data (O43, O44). -/

namespace Sys2Proof.Machine

/-! ### The included tiles of a link (R96) -/

theorem includedTiles_pairwise (c : Shadow) (l : Fin 24) : (includedTiles c l).Pairwise (fun a b => a.idx < b.idx) := by
  unfold includedTiles
  refine List.Pairwise.filterMap _ (fun r r' (lt : r < r') t ht t' ht' => ?_) (List.pairwise_lt_finRange 16)
  have idx {r : Fin 16} {P : Prop} [Decidable P] {x y : Nat} {t : TileRec} (h : t ∈ if P then some ⟨r.val, x, y⟩ else none) :
      t.idx = r.val := by
    split at h
    · cases h; rfl
    · exact absurd h (by simp)
  rw [idx ht, idx ht']
  exact lt

theorem mem_includedTiles (c : Shadow) (l : Fin 24) (t : TileRec) :
    t ∈ includedTiles c l ↔ ∃ r : Fin 16,
      let v := (c.tiles[l])[r.val + 2]
      t = ⟨r.val, field v 0 13, field v 16 12⟩ ∧ r.val < field (c.tiles[l])[0] 3 5 ∧ v.getLsbD 31 = true
        ∧ field v 0 13 + field (c.tiles[l])[0] 8 10 ≤ c.width ∧ field v 16 12 + field (c.tiles[l])[0] 18 10 ≤ c.height := by
  unfold includedTiles
  rw [List.mem_filterMap]
  refine exists_congr fun r => ?_
  dsimp only
  rw [and_iff_right (List.mem_finRange r), Option.ite_none_right_eq_some, Option.some.injEq, and_comm]
  exact and_congr_left fun _ => eq_comm

/-! ### The link served (R106) -/

theorem linkNeedsFetch_iff (s : State) (l : Fin 24) :
    linkNeedsFetch s l = true ↔ ∃ d p, s.so.send = some d ∧ d.parts[l] = some p ∧ p.tileAt < p.tiles.length ∧ p.fetched < p.tw / 16 := by
  unfold linkNeedsFetch
  cases send : s.so.send with
  | none =>
    rw [show partOf s l = none by unfold partOf; rw [send]]
    exact ⟨fun h => absurd h (by decide), fun ⟨d, _, h, _⟩ => absurd h (by simp)⟩
  | some d =>
    rw [partOf_send send l]
    cases part : d.parts[l] with
    | none => exact ⟨fun h => absurd h (by decide), fun ⟨_, p, rfl, h, _⟩ => absurd (part.symm.trans h) (by simp)⟩
    | some p =>
      have need : p.needsFetch = true ↔ p.tileAt < p.tiles.length ∧ p.fetched < p.tw / 16 := by simp [Part.needsFetch]
      refine need.trans ⟨fun h => ⟨d, p, rfl, part, h⟩, ?_⟩
      rintro ⟨_, q, e, own, h⟩
      cases e
      cases part.symm.trans own
      exact h

theorem anyNeedsFetch_iff (s : State) : anyNeedsFetch s = true ↔ ∃ l, linkNeedsFetch s l = true := by
  unfold anyNeedsFetch
  rw [List.any_eq_true]
  exact exists_congr fun l => and_iff_right (List.mem_finRange l)

theorem linksAfter_getElem (served : Fin 24) (j : Nat) (h : j < (linksAfter served).length) :
    ((linksAfter served)[j]).val = (served.val + 1 + j) % 24 := by
  simp [linksAfter, Fin.ofNat]

/-- The lowest starved link that needs a fetch is chosen. -/
theorem chooseLink_starved (s : State) (l : Fin 24) (needs : linkNeedsFetch s l = true) (starved : (s.so.links[l]).starved = true)
    (lowest : ∀ j, linkNeedsFetch s j = true → (s.so.links[j]).starved = true → l.val ≤ j.val) : chooseLink s = some l := by
  have found : (List.finRange 24).find? (fun l => (s.so.links[l]).starved && linkNeedsFetch s l) = some l := by
    rw [List.find?_eq_some_iff_getElem]
    refine ⟨by rw [starved, needs]; rfl, l.val, by simp, by simp, fun j hj => ?_⟩
    rw [List.getElem_finRange, Bool.not_eq_true', Bool.eq_false_iff]
    intro h
    obtain ⟨starved', needs'⟩ := (Bool.and_eq_true _ _).mp h
    exact absurd (lowest _ needs' starved') (Nat.not_le_of_lt hj)
  unfold chooseLink
  rw [found]

/-- With no starved link that needs a fetch, the first after the link served last is chosen. -/
theorem chooseLink_next (s : State) (l : Fin 24) (needs : linkNeedsFetch s l = true)
    (calm : ∀ j, linkNeedsFetch s j = true → (s.so.links[j]).starved = false)
    (nearest : ∀ j, linkNeedsFetch s j = true → (l.val + 23 - s.so.served.val) % 24 ≤ (j.val + 23 - s.so.served.val) % 24) :
    chooseLink s = some l := by
  have none : (List.finRange 24).find? (fun l => (s.so.links[l]).starved && linkNeedsFetch s l) = none := by
    refine List.find?_eq_none.mpr fun j _ h => ?_
    obtain ⟨starved, needs⟩ := (Bool.and_eq_true _ _).mp h
    exact absurd (starved.symm.trans (calm j needs)) (by decide)
  unfold chooseLink
  rw [none]
  dsimp only
  have length : (linksAfter s.so.served).length = 24 := by simp [linksAfter]
  rw [List.find?_eq_some_iff_getElem]
  refine ⟨needs, (l.val + 23 - s.so.served.val) % 24, by omega, Fin.ext ?_, fun j hj => ?_⟩
  · rw [linksAfter_getElem]
    omega
  · rw [Bool.not_eq_true', Bool.eq_false_iff]
    intro h
    have far := nearest _ h
    rw [linksAfter_getElem] at far
    omega

theorem chooseLink_none (s : State) (h : ∀ l, linkNeedsFetch s l = false) : chooseLink s = none := by
  unfold chooseLink
  rw [List.find?_eq_none.mpr fun l _ => by rw [h l]; simp]
  exact List.find?_eq_none.mpr fun l _ => by rw [h l]; decide

/-! ### The granted claim (R105, R106) -/

theorem scanOutAccess_chosen (s : State) (d : Send) (p : Part) (l : Fin 24) (send : s.so.send = some d) (part : d.parts[l] = some p)
    (chosen : chooseLink s = some l) :
    scanOutAccess s = .read (blockAddrs (s.cc.segmentAddr d.bank (p.nextSegment s.cc.columns))) := by
  unfold scanOutAccess
  rw [send, chosen]
  dsimp only
  rw [part]

theorem scanOutFollow_eq (s : State) (d : Send) (p : Part) (l : Fin 24) (send : s.so.send = some d) (part : d.parts[l] = some p) :
    scanOutFollow s l = { s with so := { s.so with
      claim := (scanOutFollow s l).so.claim, served := l
      send := some { d with parts := put d.parts l (some { p with fetched := p.fetched + 1 }) } } }
    ∧ (scanOutFollow s l).so.claim = anyNeedsFetch (scanOutFollow s l) := by
  have fetched : setPart s l (some { p with fetched := p.fetched + 1 })
      = { s with so := { s.so with send := some { d with parts := put d.parts l (some { p with fetched := p.fetched + 1 }) } } } := by
    rw [setPart_spec, send]
    rfl
  have follow : scanOutFollow s l = { s with so := { s.so with
      claim := anyNeedsFetch (setPart s l (some { p with fetched := p.fetched + 1 })), served := l
      send := some { d with parts := put d.parts l (some { p with fetched := p.fetched + 1 }) } } } := by
    unfold scanOutFollow
    rw [(partOf_send send l).trans part]
    dsimp only
    rw [fetched]
  rw [follow]
  exact ⟨rfl, anyNeedsFetch_congr (by rw [fetched])⟩

theorem grantScanOut_chosen (s : State) (d : Send) (p : Part) (l : Fin 24) (send : s.so.send = some d) (part : d.parts[l] = some p)
    (chosen : chooseLink s = some l) (addrs : List Nat) (access : scanOutAccess s = .read addrs) :
    grantScanOut s = { s with
      channel := .segmentRead l (Memory.readAll s.mem addrs) false
      so := { s.so with
        claim := (grantScanOut s).so.claim, served := l
        send := some { d with parts := put d.parts l (some { p with fetched := p.fetched + 1 }) } } }
    ∧ (grantScanOut s).so.claim = anyNeedsFetch (grantScanOut s) := by
  have grants : grantScanOut s = scanOutFollow { s with channel := .segmentRead l (Memory.readAll s.mem addrs) false } l := by
    unfold grantScanOut
    rw [chosen, access]
    rfl
  rw [grants]
  exact scanOutFollow_eq _ d p l send part

/-- Settles O44, clause by clause: the tiles, the need, and the link chosen. -/
theorem fetchesFollowTheSend : Obligations.FetchesFollowTheSend := by
  unfold Obligations.FetchesFollowTheSend
  refine ⟨fun c l => ⟨includedTiles_pairwise c l, fun t => mem_includedTiles c l t⟩, linkNeedsFetch_iff, anyNeedsFetch_iff,
    fun s d p l send part needs first => ?_, fun s calm => ?_⟩
  · have chosen : chooseLink s = some l := by
      rcases first with ⟨starved, lowest⟩ | ⟨fed, nearest⟩
      · exact chooseLink_starved s l needs starved lowest
      · exact chooseLink_next s l needs fed nearest
    have access := scanOutAccess_chosen s d p l send part chosen
    obtain ⟨only, claim⟩ := grantScanOut_chosen s d p l send part chosen _ access
    exact ⟨access, claim, only⟩
  · have none := chooseLink_none s calm
    have ends : grantScanOut s = { s with so := { s.so with claim := false } } := by
      unfold grantScanOut
      rw [none]
    have access : scanOutAccess s = .nothing := by
      unfold scanOutAccess
      rw [none]
      cases s.so.send <;> rfl
    exact ⟨access, ends⟩

end Sys2Proof.Machine
end

section
/-! The pixel law, and the data of a segment read (O43). -/

namespace Sys2Proof.Machine

/-! ### Fields of a packed word -/

theorem field_ofNat {n : Nat} (small : n < 2 ^ 32) (lo len : Nat) : field (BitVec.ofNat 32 n) lo len = n / 2 ^ lo % 2 ^ len := by
  unfold field
  rw [BitVec.extractLsb'_toNat, BitVec.toNat_ofNat, Nat.mod_eq_of_lt small, Nat.shiftRight_eq_div_pow]

/-! ### The pixel law (R108) -/

theorem scaleComponent_lt {p w t : Nat} (hp : p < 1024) (hw : w ≤ 255) (ht : t ≤ 15) : scaleComponent p w t < 1024 := by
  have gained : p * (w + 1) ≤ 1023 * 256 := Nat.mul_le_mul (by omega) (by omega)
  have trimmed : p * (w + 1) / 256 * (t + 17) ≤ 1023 * 32 := Nat.mul_le_mul (by omega) (by omega)
  unfold scaleComponent
  omega

theorem scaleComponent_full {p : Nat} : scaleComponent p 255 15 = p := by
  unfold scaleComponent
  omega

theorem scalePixel_eq (w : Byte) (trim : RGB) (px : Word) (hr : trim.r ≤ 15) (hg : trim.g ≤ 15) (hb : trim.b ≤ 15) :
    field (scalePixel w trim px) 0 10 = scaleComponent (field px 0 10) w.toNat trim.r
    ∧ field (scalePixel w trim px) 10 10 = scaleComponent (field px 10 10) w.toNat trim.g
    ∧ field (scalePixel w trim px) 20 10 = scaleComponent (field px 20 10) w.toNat trim.b
    ∧ field (scalePixel w trim px) 30 2 = 0 := by
  have gain : w.toNat ≤ 255 := Nat.le_of_lt_succ w.isLt
  have r := scaleComponent_lt (field_lt px 0 10) gain hr
  have g := scaleComponent_lt (field_lt px 10 10) gain hg
  have b := scaleComponent_lt (field_lt px 20 10) gain hb
  unfold scalePixel pixelRGB
  dsimp only
  generalize scaleComponent (field px 0 10) w.toNat trim.r = x at r ⊢
  generalize scaleComponent (field px 10 10) w.toNat trim.g = y at g ⊢
  generalize scaleComponent (field px 20 10) w.toNat trim.b = z at b ⊢
  have word : pack [(x, 0), (y, 10), (z, 20)] = BitVec.ofNat 32 (x + 1024 * y + 1048576 * z) := by
    rw [pack_eq]
    · simp [fieldSum]
    · simp only [fieldsFit, and_true]
      omega
  have small : x + 1024 * y + 1048576 * z < 2 ^ 32 := by omega
  rw [word, field_ofNat small, field_ofNat small, field_ofNat small, field_ofNat small]
  omega

/-! ### The data of a segment read (R107) -/

/-- No line is placed while the line is incomplete or the stage is taken. -/
theorem placeLine_kept (s : State) (l : Fin 24) (d : Send) (p : Part) (send : s.so.send = some d) (part : d.parts[l] = some p)
    (h : p.assembly.length < p.tw ∨ p.tiles.length ≤ p.tileAt ∨ (s.tx[l]).stage ≠ none) : placeLine s l = s := by
  rcases placeLine_cases s l with e | ⟨d', p', send', part', complete, stage, -⟩
  · exact e
  · cases send.symm.trans send'
    cases part.symm.trans part'
    obtain ⟨more, long⟩ := (lineComplete_iff p).mp complete
    rcases h with short | done | taken
    · omega
    · omega
    · exact absurd stage taken

theorem assembleSegment_eq (s : State) (l : Fin 24) (data : List Byte) (d : Send) (p : Part) (send : s.so.send = some d)
    (part : d.parts[l] = some p) :
    let q := { p with assembly := p.assembly ++ (pixelsOf data).map (scalePixel s.so.gain p.trim) }
    assembleSegment s l data
      = soRaise (placeLine { s with so := { s.so with send := some { d with parts := put d.parts l (some q) } } } l) := by
  intro q
  unfold assembleSegment
  rw [(partOf_send send l).trans part]
  dsimp only
  rw [setPart_spec, send]
  rfl

/-- A raised claim, over a state whose claim is known. -/
theorem soRaise_eq (s : State) : soRaise s = { s with so := { s.so with claim := (soRaise s).so.claim } } := by
  rw [soRaise_spec]

/-! ### The latched wall gain (R101) -/

theorem SendStarted.tag {s t : State} {count : Word} {kind : SendKind} {k : Fin 4} {st : BankState} (h : SendStarted s t count kind k st) :
    t.so.tag ≠ s.so.tag := by
  obtain ⟨parts, -, -, -, -, only⟩ := h
  have next : t.so.tag = s.so.tag + 1 := congrArg (fun u : State => u.so.tag) only
  bv_omega

theorem attemptSend_gain (s : State) (count : Word) (tag : (attemptSend s count).so.tag = s.so.tag) :
    (attemptSend s count).so.gain = s.so.gain := by
  obtain ⟨first, again, idle⟩ := sendsStartFromTheReadyOrShownBank s count
  obtain ⟨ready, hr⟩ : ∃ ready, bankIn s .ready = ready := ⟨_, rfl⟩
  cases ready with
  | some k => exact absurd tag (first k hr).tag
  | none =>
    by_cases resend : s.so.resend = true
    · obtain ⟨shown, hs⟩ : ∃ shown, bankIn s .shown = shown := ⟨_, rfl⟩
      cases shown with
      | some k => exact absurd tag (again k hr resend hs).tag
      | none => rw [idle hr (.inr hs)]
    · rw [idle hr (.inl (by simpa using resend))]

theorem scanOutFrame_gain (s : State) (n : FrameNotice) (tag : (scanOutFrame s n).so.tag = s.so.tag) :
    (scanOutFrame s n).so.gain = s.so.gain := by
  by_cases runs : s.cc.running = true
  · by_cases lost : n.lock = .lost
    · rw [scanOutFrame_lost s n runs lost, giveMarks_so]
    · obtain ⟨send, h⟩ : ∃ send, s.so.send = send := ⟨_, rfl⟩
      cases send with
      | none =>
        rw [scanOutFrame_idle s n runs lost h] at tag ⊢
        rw [attemptSend_gain _ _ (by rw [tag, giveMarks_so]), giveMarks_so]
      | some d =>
        cases gate : sendComplete d with
        | false => rw [scanOutFrame_held s n d runs lost h gate, giveMarks_so]
        | true =>
          have ended : (endSend s d).so.tag = s.so.tag ∧ (endSend s d).so.gain = s.so.gain := by
            unfold endSend
            rw [showSent_only]
            exact ⟨rfl, rfl⟩
          rw [scanOutFrame_shown s n d runs lost h gate] at tag ⊢
          rw [attemptSend_gain _ _ (by rw [tag, giveMarks_so]; exact ended.1.symm), giveMarks_so]
          exact ended.2
  · rw [scanOutFrame_stopped s n (by simpa using runs)]

/-- Settles O43: the pixel law, the segment's data, and the gain that only a send start latches. -/
theorem segmentDataIsScaledIntoTheLine : Obligations.SegmentDataIsScaledIntoTheLine := by
  unfold Obligations.SegmentDataIsScaledIntoTheLine
  refine ⟨fun w trim px hr hg hb => ?_, fun s l data d p _ channel send part => ?_, fun s l data channel => ?_, fun s other => ?_,
    fun c s t frame reset h => ?_, fun s t h tag => ?_⟩
  · obtain ⟨r, g, b, spare⟩ := scalePixel_eq w trim px hr hg hb
    refine ⟨r, g, b, spare, fun full even => ?_⟩
    rw [full, even] at r g b ⊢
    exact ⟨r.trans scaleComponent_full, g.trans scaleComponent_full, b.trans scaleComponent_full⟩
  · have returned : exec .segmentDataReturn s = .next (assembleSegment { s with channel := .free } l data) := by
      show execSegmentDataReturn s = _
      unfold execSegmentDataReturn
      rw [channel]
      rfl
    rw [assembleSegment_eq { s with channel := .free } l data d p send part] at returned
    obtain ⟨line, px⟩ : ∃ line, p.assembly ++ (pixelsOf data).map (scalePixel s.so.gain p.trim) = line := ⟨_, rfl⟩
    rw [px] at returned
    refine ⟨_, line, returned, ?_, ?_, fun kept => ?_, fun long more empty => ?_⟩
    · rw [← px, pixelsOf, List.map_map]
      rfl
    · rw [soRaise_claim, placeLine_so_claim]
    · have same := put_same d.parts l (some { p with assembly := line })
      rw [placeLine_kept _ l _ _ rfl same kept]
      exact soRaise_eq _
    · have same := put_same d.parts l (some { p with assembly := line })
      have complete : Part.lineComplete { p with assembly := line } = true := (lineComplete_iff _).mpr ⟨more, long⟩
      have placed := placeLine_complete
        { s with channel := .free, so := { s.so with send := some { d with parts := put d.parts l (some { p with assembly := line }) } } }
        l _ _ rfl same complete empty
      rw [placed, soRaise_eq]
      dsimp only
      rw [put_put]
      rfl
  · show execSegmentDataReturn s = _
    unfold execSegmentDataReturn
    rw [channel]
    rfl
  · show execSegmentDataReturn s = _
    unfold execSegmentDataReturn
    split
    · next l data discard channel => exact absurd channel (other l data discard)
    · rfl
  · by_cases grant : ∃ tick, c = .arbiterGrant tick
    · obtain ⟨tick, rfl⟩ := grant
      rcases execArbiterGrant_cases h with rfl | ⟨who, -, rfl⟩
      · rfl
      · exact (grant_keeps (atTime s tick) who).gain
    · exact (exec_keeps (fun tick e => grant ⟨tick, e⟩) reset frame h).gain
  · change execScanOutFrameEvent s = .next t at h
    unfold execScanOutFrameEvent at h
    split at h <;> cases h
    · rfl
    · exact scanOutFrame_gain _ _ tag

end Sys2Proof.Machine
end

section
/-! The System Port's claims granted, the requests that wait, and the start-up sweep (O40). -/

namespace Sys2Proof.Machine

/-! ### Memory after a write (R35) -/

theorem read_writeAll_inside (cells : List Host.Cell) (distinct : (cells.map (·.1)).Nodup) (c : Host.Cell) (mem : c ∈ cells) :
    ∀ m : Memory, Memory.wf m = true → Memory.read (Memory.writeAll m cells) c.1 = c.2 := by
  induction cells with
  | nil => exact absurd mem (by simp)
  | cons d ds ih =>
    intro m wf
    rw [List.map_cons, List.nodup_cons] at distinct
    obtain ⟨fresh, distinct⟩ := distinct
    show Memory.read (Memory.writeAll (Memory.write m d.1 d.2) ds) c.1 = c.2
    rcases List.mem_cons.mp mem with rfl | later
    · rw [Memory.read_writeAll_outside ds _ fun x hx e => fresh (List.mem_map.mpr ⟨x, hx, e⟩)]
      exact Memory.read_write_same m _ _ 0 wf
    · exact ih distinct later _ (Memory.wf_write m _ _ wf)

/-! ### The requests that wait (R34) -/

theorem steerWrite_arrived (s : State) (k : Fin 4) (seg : Nat) (lanes : List Lane) :
    (steerWrite s k seg lanes).port.arrived = s.port.arrived := by
  have marked : (markWritten s k seg).port = s.port := by
    rcases markWritten_spec s k seg with ⟨-, h⟩ | ⟨-, h⟩ <;> rw [h]
    rw [setBank_port, setMark_only]
  have arrived : (markWritten s k seg).port.arrived = s.port.arrived := congrArg Port.arrived marked
  unfold steerWrite
  split
  · rfl
  · split
    · exact arrived
    · exact arrived

theorem takeCanvasWrite_arrived (s : State) (seg : Nat) (lanes : List Lane) :
    (takeCanvasWrite s seg lanes).port.arrived = s.port.arrived := by
  unfold takeCanvasWrite
  split
  · exact steerWrite_arrived ..
  · split
    · rfl
    · split
      · next k _ => rw [steerWrite_arrived, openBank_only]
      · rfl

theorem takeControlWrite_arrived (s : State) (cells : List Host.Cell) (block : Nat) :
    (takeControlWrite s cells block).port.arrived = s.port.arrived := by
  have captured : (captureWrite s cells block).port.arrived = s.port.arrived := congrArg Port.arrived (captureWrite_keeps s cells block).port
  exact captured

theorem takeRemaining_arrived (s : State) (cells : List Host.Cell) : (takeRemaining s cells).port.arrived = s.port.arrived := by
  unfold takeRemaining
  obtain ⟨classOf, h⟩ : ∃ f, f = s.classOf := ⟨_, rfl⟩
  rw [← h]
  split
  · rfl
  · split
    · exact takeControlWrite_arrived ..
    · unfold takeCanvasClass
      dsimp only
      split
      · rfl
      · exact takeCanvasWrite_arrived ..
    · rfl
    · rfl

theorem takeRequest_arrived (s : State) (r : Request) : (takeRequest s r).port.arrived = s.port.arrived := by
  unfold takeRequest
  split
  · rfl
  · split
    · rfl
    · unfold takeWrite
      split
      · rfl
      · rw [takeRemaining_arrived, (noteDiscards_keeps s r _).port]

/-- A port in IDLE takes the oldest request that waits, and goes on from there. -/
theorem settlePort_cons (s : State) (r : Request) (rest : List Request) (idle : s.port.phase = .idle) (arrived : s.port.arrived = r :: rest) :
    settlePort s = settlePort (takeRequest { s with port := { s.port with arrived := rest } } r) := by
  have queue := takeRequest_arrived { s with port := { s.port with arrived := rest } } r
  unfold settlePort
  rw [if_pos idle, arrived, takeArrived]
  generalize takeRequest { s with port := { s.port with arrived := rest } } r = s1 at queue ⊢
  dsimp only at queue ⊢
  rw [queue]

/-! ### The start-up sweep (R191, R198) -/

theorem powerOnImage_getD (levels : BitVec 8) (o : Nat) (h : o < 256) :
    (powerOnImage levels).getD o 0 = if o = 4 then 1 else if o = 20 then levels else 0 := by
  unfold powerOnImage
  rw [List.getD_eq_getElem?_getD, List.getElem?_set, List.getElem?_set, List.getElem?_replicate]
  simp only [List.length_set, List.length_replicate, h, if_true]
  by_cases twenty : 20 = o
  · subst twenty
    rfl
  · rw [if_neg twenty, if_neg (Ne.symm twenty)]
    by_cases four : 4 = o
    · subst four
      rfl
    · rw [if_neg four, if_neg (Ne.symm four)]
      rfl

theorem sweepBlocks_getD (k : Nat) (h : k < 104) :
    sweepBlocks.getD k 0 = if k < 2 then 64 * k else if k < 4 then 0x100 + 64 * (k - 2) else if k < 8 then 0x200 + 64 * (k - 4)
      else if k < 24 then 0x400 + 64 * (k - 8) else if k < 56 then 0x800 + 64 * (k - 24) else 0x1000 + 64 * (k - 56) := by
  have all : ∀ k < 104, sweepBlocks.getD k 0 = if k < 2 then 64 * k else if k < 4 then 0x100 + 64 * (k - 2)
      else if k < 8 then 0x200 + 64 * (k - 4) else if k < 24 then 0x400 + 64 * (k - 8) else if k < 56 then 0x800 + 64 * (k - 24)
      else 0x1000 + 64 * (k - 56) := by decide
  exact all k h

theorem sweepBlocks_aligned (k : Nat) (h : k < 104) : sweepBlocks.getD k 0 % 4 = 0 := by
  rw [sweepBlocks_getD k h]
  split_ifs <;> omega

/-- What the sweep writes at an offset of the control window. -/
def sweepByte (levels : BitVec 8) (o : Nat) (b : Byte) : Prop :=
  (∃ w, wordAt (o / 4 * 4) = some w ∧ b = (Shadow.powerOn.word w).extractLsb' (8 * (o % 4)) 8)
    ∨ (0x200 ≤ o ∧ o < 0x300 ∧ b = (powerOnImage levels).getD (o - 0x200) 0)

theorem readAddrs_eq (picks : List Pick) (got : Option (List Byte)) :
    let own := (picks.filter (·.first)).map (·.addr)
    let bank := (picks.filter fun p => !p.first).map (·.addr)
    readAddrs picks got = if got = none ∧ own ≠ [] then own else bank := by
  unfold readAddrs
  dsimp only
  refine if_congr ?_ rfl rfl
  rw [Option.isNone_iff_eq_none, Bool.not_eq_true', List.isEmpty_eq_false_iff]

theorem mem_cellsFrom (base : Nat) (bytes : List Byte) (a : Nat) (b : Byte) :
    (a, b) ∈ cellsFrom base bytes ↔ ∃ j < bytes.length, a = base + j ∧ b = bytes.getD j 0 := by
  unfold cellsFrom
  rw [List.mem_map]
  refine exists_congr fun j => ?_
  rw [List.mem_range, Prod.mk.injEq, eq_comm (a := base + j), eq_comm (b := b)]

theorem bytesOf_getD (w : Word) (j : Nat) (h : j < 4) : (bytesOf w).getD j 0 = w.extractLsb' (8 * j) 8 := by
  interval_cases j <;> rfl

theorem wordAt_status (off : Nat) (low : 0x200 ≤ off) (high : off < 0x300) : wordAt off = none := by
  unfold wordAt
  rw [dif_neg (by omega), dif_neg (by omega), dif_neg (by omega), dif_neg (by omega), dif_neg (by omega), dif_neg (by omega)]

theorem mem_sweepWord (straps : BitVec 2) (levels : BitVec 8) (off : Nat) (aligned : off % 4 = 0) (a : Nat) (b : Byte) :
    (a, b) ∈ sweepWord straps levels off ↔ ∃ o, off ≤ o ∧ o < off + 4 ∧ a = controlBase straps + o ∧ sweepByte levels o b := by
  unfold sweepWord
  have word {o : Nat} (low : off ≤ o) (high : o < off + 4) : o / 4 * 4 = off ∧ o % 4 = o - off := by omega
  by_cases status : 0x200 ≤ off ∧ off < 0x300
  · obtain ⟨low, high⟩ := status
    rw [if_pos (by unfold inRange; simp [low, high]), mem_cellsFrom]
    constructor
    · rintro ⟨j, hj, rfl, rfl⟩
      rw [List.length_map, List.length_range] at hj
      refine ⟨off + j, by omega, by omega, by omega, .inr ⟨by omega, by omega, ?_⟩⟩
      rw [show off + j - 0x200 = off - 0x200 + j by omega]
      simp [List.getD_eq_getElem?_getD, hj]
    · rintro ⟨o, ho, ho', rfl, ⟨w, at', -⟩ | ⟨-, -, byte⟩⟩
      · rw [(word ho ho').1, wordAt_status off low high] at at'
        exact absurd at' (by simp)
      · refine ⟨o - off, by rw [List.length_map, List.length_range]; omega, by omega, ?_⟩
        rw [byte, show o - 0x200 = off - 0x200 + (o - off) by omega]
        have small : o - off < 4 := by omega
        simp [List.getD_eq_getElem?_getD, small]
  · rw [if_neg (by unfold inRange; simp; omega)]
    cases found : wordAt off with
    | none =>
      refine ⟨fun h => absurd h (by simp), ?_⟩
      rintro ⟨o, ho, ho', -, ⟨w, at', -⟩ | ⟨low, high, -⟩⟩
      · rw [(word ho ho').1, found] at at'
        exact absurd at' (by simp)
      · omega
    | some w =>
      dsimp only
      rw [mem_cellsFrom]
      constructor
      · rintro ⟨j, hj, rfl, rfl⟩
        have hj : j < 4 := hj
        obtain ⟨quot, rem⟩ := word (o := off + j) (by omega) (by omega)
        refine ⟨off + j, by omega, by omega, by omega, .inl ⟨w, by rw [quot]; exact found, ?_⟩⟩
        rw [bytesOf_getD _ _ hj, rem, Nat.add_sub_cancel_left]
      · rintro ⟨o, ho, ho', rfl, ⟨w', at', rfl⟩ | ⟨low, high, -⟩⟩
        · rw [(word ho ho').1, found] at at'
          cases at'
          have small : o - off < 4 := by omega
          refine ⟨o - off, small, by omega, ?_⟩
          rw [bytesOf_getD _ _ small, (word ho ho').2]
        · omega

/-- The addresses the sweep writes at an offset, in ascending order. -/
theorem sweepWord_addrs (straps : BitVec 2) (levels : BitVec 8) (off : Nat) : ((sweepWord straps levels off).map (·.1)).Pairwise (· < ·) := by
  have rising (base : Nat) (bytes : List Byte) : ((cellsFrom base bytes).map (·.1)).Pairwise (· < ·) := by
    unfold cellsFrom
    rw [List.map_map]
    exact List.Pairwise.map _ (fun i j h => Nat.add_lt_add_left h base) List.pairwise_lt_range
  unfold sweepWord
  split
  · exact rising ..
  · split
    · exact .nil
    · exact rising ..

/-- Settles O40, by the state of the port; the sweep's bytes word by word. -/
theorem grantedPortClaimsTakeEffect : Obligations.GrantedPortClaimsTakeEffect := by
  unfold Obligations.GrantedPortClaimsTakeEffect
  intro s
  refine ⟨fun cells phase => grantSp_write phase, fun bank seg bytes phase => grantSp_merged phase,
    fun cells phase => grantSp_lastRefresh phase, fun cells c rest phase => grantSp_refresh phase,
    fun k levels phase more => (grantSp_startup phase).trans (if_pos more),
    fun k levels phase done => (grantSp_startup phase).trans (if_neg (Nat.not_lt_of_le done)),
    fun levels => ⟨by rw [powerOnImage, List.length_set, List.length_set, List.length_replicate], fun o h => powerOnImage_getD levels o h⟩, fun straps levels k h => ?_,
    fun picks got phase => ?_, fun bank src seg lanes rewrite phase => ?_,
    fun cells wf distinct c mem => read_writeAll_inside cells distinct c mem _ wf, fun h => ?_,
    fun r rest idle arrived => settlePort_cons s r rest idle arrived⟩
  · intro block
    have first : sweepBlocks.getD k 0 = block := sweepBlocks_getD k h
    have aligned := sweepBlocks_aligned k h
    unfold sweepCells
    rw [first] at aligned ⊢
    clear_value block
    refine ⟨?_, fun a b => ?_⟩
    · rw [List.map_flatMap, List.pairwise_flatMap]
      refine ⟨fun i _ => sweepWord_addrs .., List.pairwise_lt_range.imp fun {i j} lt x hx y hy => ?_⟩
      obtain ⟨⟨x, v⟩, cellX, rfl⟩ := List.mem_map.mp hx
      obtain ⟨⟨y, w⟩, cellY, rfl⟩ := List.mem_map.mp hy
      obtain ⟨o, low, high, rfl, -⟩ := (mem_sweepWord straps levels (block + 4 * i) (by omega) x v).mp cellX
      obtain ⟨o', low', high', rfl, -⟩ := (mem_sweepWord straps levels (block + 4 * j) (by omega) y w).mp cellY
      show controlBase straps + o < controlBase straps + o'
      omega
    · rw [List.mem_flatMap]
      constructor
      · rintro ⟨i, hi, mem⟩
        obtain ⟨o, low, high, addr, byte⟩ := (mem_sweepWord straps levels _ (by omega) _ _).mp mem
        have := List.mem_range.mp hi
        exact ⟨o, by omega, by omega, addr, byte⟩
      · rintro ⟨o, low, high, addr, byte⟩
        refine ⟨(o - block) / 4, List.mem_range.mpr (by omega), (mem_sweepWord straps levels _ (by omega) _ _).mpr ?_⟩
        exact ⟨o, by omega, by omega, addr, byte⟩
  · intro own bank
    have addrs : readAddrs picks got = if got = none ∧ own ≠ [] then own else bank := readAddrs_eq picks got
    rw [← addrs]
    exact grantSp_read phase
  · have data : Memory.readAll s.mem (blockAddrs (s.cc.segmentAddr src seg))
        = (List.range 64).map fun i => Memory.read s.mem (s.cc.segmentAddr src seg + i) := List.map_map
    rw [← data]
    exact grantSp_preRead phase
  · rcases h with busy | none
    · exact settlePort_busy s busy
    · exact settlePort_none s none

end Sys2Proof.Machine
end

section
/-! The copy engine's grants (O45). -/

namespace Sys2Proof.Machine

/-! ### The end of a copy step (R18, R20, R21) -/

theorem sealComplete_same (s : State) (k : Fin 4) :
    (sealComplete s k).banks[k] = { s.banks[k] with state := if (s.banks[k]).state = .sealing then .ready else (s.banks[k]).state } := by
  rcases Decidable.em ((s.banks[k]).state = .sealing) with h | h
  · unfold sealComplete
    rw [if_pos h, if_pos h]
    exact setBank_same ..
  · unfold sealComplete
    rw [if_neg h, if_neg h]

theorem sealComplete_ne (s : State) {i k : Fin 4} (e : i ≠ k) : (sealComplete s k).banks[i] = s.banks[i] := by
  rcases sealComplete_spec s k with h | ⟨-, h⟩ <;> rw [h]
  exact setBank_ne s _ e

/-- What the completion of a copy from bank `j` into bank `k` leaves. -/
def CopyCompleted (u t : State) (k j : Fin 4) : Prop :=
  t.banks[k] = { u.banks[k] with src := none, state := if (u.banks[k]).state = .sealing then .ready else (u.banks[k]).state }
  ∧ t.banks[j] = (if (u.banks[j]).state = .retiring then (u.banks[j]).freed else u.banks[j])
  ∧ (∀ i, i ≠ k → i ≠ j → t.banks[i] = u.banks[i])
  ∧ ((u.banks[k]).state = .sealing → ¬ lentTo t k)
  ∧ ((u.banks[k]).state ≠ .sealing → t.map0 = u.map0 ∧ t.map1 = u.map1)
  ∧ t = { u with banks := t.banks, map0 := t.map0, map1 := t.map1, copy := .idle, passed := { u.passed with copy := 0 } }

theorem copyComplete_completed (u : State) (k j : Fin 4) (fills : (u.banks[k]).state.fills = true) (src : (u.banks[k]).src = some j)
    (ne : j ≠ k) : CopyCompleted u (copyComplete u k) k j := by
  have only := copyComplete_only u k
  rw [copyComplete_eq] at only ⊢
  have own : (copyIdle (sourceGone u k)).banks[k] = { u.banks[k] with src := none } := sourceGone_same u k fills
  have others (i : Fin 4) (e : i ≠ k) : (copyIdle (sourceGone u k)).banks[i]
      = if (u.banks[k]).src = some i ∧ (u.banks[i]).state = .retiring then (u.banks[i]).freed else u.banks[i] := sourceGone_ne u k i e
  have maps : (copyIdle (sourceGone u k)).map0 = u.map0 ∧ (copyIdle (sourceGone u k)).map1 = u.map1 := by
    rw [sourceGone_only]
    exact ⟨rfl, rfl⟩
  generalize copyIdle (sourceGone u k) = v at own others maps only ⊢
  refine ⟨?_, ?_, fun i ek ej => ?_, fun sealing lent => ?_, fun filling => ?_, only⟩
  · rw [sealComplete_same, own]
  · rw [sealComplete_ne v ne, others j ne, src]
    simp only [true_and]
  · rw [sealComplete_ne v ek, others i ek, src, if_neg]
    rintro ⟨same, -⟩
    exact ej (Option.some.inj same).symm
  · have sealed : (v.banks[k]).state = .sealing := by rw [own]; exact sealing
    unfold sealComplete at lent
    rw [if_pos sealed, lentTo_releaseMap] at lent
    exact lent.2 rfl
  · have open' : (v.banks[k]).state ≠ .sealing := by rw [own]; exact filling
    unfold sealComplete
    rw [if_neg open']
    exact maps

/-- What the end of a copy step from bank `j` into bank `k` leaves, the progress now at `p`. -/
def CopyStepped (u t : State) (k j : Fin 4) (p : Nat) : Prop :=
  (p < u.cc.segments → isMarked u k p = false ∧ t = { setBank u k { u.banks[k] with progress := p } with copy := .wantRead })
  ∧ (p = u.cc.segments → CopyCompleted (setBank u k { u.banks[k] with progress := p }) t k j)

theorem setBank_setBank (s : State) (k : Fin 4) (b c : Bank) : setBank (setBank s k b) k c = setBank s k c := by
  unfold setBank
  dsimp only
  rw [put_put]

/-- The segment that the progress comes to after the copy step of its segment (R18). -/
def copySkip (s : State) (k : Fin 4) : Nat :=
  skipMarked (marksOf s k) s.cc.segments (s.cc.segments - ((s.banks[k]).progress + 1)) ((s.banks[k]).progress + 1)

theorem copyStepEnd_eq (s : State) (k : Fin 4) :
    copyStepEnd s k = if copySkip s k < s.cc.segments
      then { setBank s k { s.banks[k] with progress := copySkip s k } with copy := .wantRead }
      else copyComplete (setBank s k { s.banks[k] with progress := copySkip s k }) k := by
  have skip : copySkip s k = skipMarked (marksOf (setBank s k { s.banks[k] with progress := (s.banks[k]).progress + 1 }) k) s.cc.segments
      (s.cc.segments - ((s.banks[k]).progress + 1)) ((s.banks[k]).progress + 1) := rfl
  unfold copyStepEnd copyAdvance
  simp only [setBank_same, setBank_setBank]
  rw [skip]
  rfl

theorem copyStepEnd_stepped (u : State) (k j : Fin 4) (fills : (u.banks[k]).state.fills = true) (src : (u.banks[k]).src = some j)
    (ne : j ≠ k) (below : (u.banks[k]).progress < u.cc.segments) :
    ∃ p, (u.banks[k]).progress < p ∧ p ≤ u.cc.segments
      ∧ (∀ q, (u.banks[k]).progress < q → q < p → isMarked u k q = true) ∧ CopyStepped u (copyStepEnd u k) k j p := by
  obtain ⟨low, high, passed, stops⟩ :=
    skipMarked_spec (marksOf u k) u.cc.segments (u.cc.segments - ((u.banks[k]).progress + 1)) ((u.banks[k]).progress + 1) (by omega) below
  rw [copyStepEnd_eq]
  unfold copySkip
  generalize skipMarked _ _ _ _ = p at low high passed stops ⊢
  refine ⟨p, low, high, fun q above => passed q above, fun more => ⟨stops more, if_pos more⟩, fun done => ?_⟩
  rw [if_neg (by omega)]
  refine copyComplete_completed _ k j ?_ ?_ ne
  · rw [setBank_same]; exact fills
  · rw [setBank_same]; exact src

/-! ### The write that ends a copy step (R5, R18, R66) -/

/-- `u` is `s` after the write of a copy step into bank `k`, landed or dropped. -/
def CopyWritten (s u : State) (k : Fin 4) (seg : Nat) : Prop :=
  u.banks[k] = { s.banks[k] with written := (u.banks[k]).written, acc := (u.banks[k]).acc }
  ∧ (∀ i, i ≠ k → u.banks[i] = s.banks[i])
  ∧ (∀ q, q ≠ seg → isMarked u k q = isMarked s k q)
  ∧ u = { s with mem := u.mem, channel := u.channel, banks := u.banks, map0 := u.map0, map1 := u.map1 }

theorem CopyWritten.refl (s : State) (k : Fin 4) (seg : Nat) : CopyWritten s s k seg := ⟨rfl, fun _ _ => rfl, fun _ _ => rfl, rfl⟩

/-- A copy write that lands (R18 step 4). -/
def copyLanded (s : State) (k : Fin 4) (seg : Nat) (buffer : List Byte) : State :=
  copyLands (placeWrite s (cellsFrom (s.cc.segmentAddr k seg) buffer)) k seg buffer

theorem copyLanded_eq (s : State) (k : Fin 4) (seg : Nat) (buffer : List Byte) (clear : isMarked s k seg = false) :
    copyLanded s k seg buffer = setBank (setMark (placeWrite s (cellsFrom (s.cc.segmentAddr k seg) buffer)) k seg) k
      (addSegment s.cc.columns { s.banks[k] with written := (s.banks[k]).written + 1 } seg buffer) := by
  unfold copyLanded copyLands
  rcases markWritten_spec (placeWrite s (cellsFrom (s.cc.segmentAddr k seg) buffer)) k seg with ⟨marked, -⟩ | ⟨-, h⟩
  · exact absurd (marked.symm.trans clear) (by decide)
  · rw [h]
    dsimp only
    rw [setBank_same, setBank_setBank, setBank_cc, setMark_only]
    rfl

theorem isMarked_setMark (s : State) (k : Fin 4) (seg q : Nat) (lent : lentTo s k) :
    isMarked (setMark s k seg) k q = true ↔ q = seg ∨ isMarked s k q = true := by
  unfold isMarked
  rw [marksOf_setMark s k seg lent, List.contains_iff_mem, List.contains_iff_mem]
  exact mem_insertMark ..

theorem isMarked_congr {s t : State} (map0 : t.map0 = s.map0) (map1 : t.map1 = s.map1) (k : Fin 4) (q : Nat) :
    isMarked t k q = isMarked s k q := by
  unfold isMarked marksOf
  rw [map0, map1]

/-- A write that lands is marked, counted and added to the sums. -/
theorem copyLanded_spec (s : State) (k : Fin 4) (seg : Nat) (buffer : List Byte) (clear : isMarked s k seg = false) (lent : lentTo s k) :
    CopyWritten s (copyLanded s k seg buffer) k seg
    ∧ (copyLanded s k seg buffer).mem = Memory.writeAll s.mem (cellsFrom (s.cc.segmentAddr k seg) buffer)
    ∧ (copyLanded s k seg buffer).channel = .write (Memory.undo s.mem (cellsFrom (s.cc.segmentAddr k seg) buffer))
    ∧ ((copyLanded s k seg buffer).banks[k]).written = (s.banks[k]).written + 1
    ∧ isMarked (copyLanded s k seg buffer) k seg = true
    ∧ ∀ z : Fin 64, ((copyLanded s k seg buffer).banks[k]).acc[z] =
        if segmentInZone s.cc.columns (s.banks[k]).geom[z] seg = true
        then ((s.banks[k]).acc[z]).plus ((s.banks[k]).geom[z]).clip buffer else (s.banks[k]).acc[z] := by
  rw [copyLanded_eq s k seg buffer clear]
  have marks (q : Nat) := isMarked_setMark (placeWrite s (cellsFrom (s.cc.segmentAddr k seg) buffer)) k seg q lent
  have only := setMark_only (placeWrite s (cellsFrom (s.cc.segmentAddr k seg) buffer)) k seg
  generalize setMark (placeWrite s (cellsFrom (s.cc.segmentAddr k seg) buffer)) k seg = v at marks only ⊢
  have kept (q : Nat) (other : q ≠ seg) : isMarked v k q = isMarked s k q := by
    refine Bool.eq_iff_iff.mpr ((marks q).trans ⟨fun h => h.resolve_left other, .inr⟩)
  have landed := (marks seg).mpr (.inl rfl)
  obtain ⟨m0, m1, rfl⟩ : ∃ m0 m1, v = { placeWrite s (cellsFrom (s.cc.segmentAddr k seg) buffer) with map0 := m0, map1 := m1 } := ⟨_, _, only⟩
  refine ⟨⟨?_, fun i e => setBank_ne _ _ e, kept, rfl⟩, rfl, rfl, ?_, landed, fun z => ?_⟩
  · rw [setBank_same]
    rfl
  · rw [setBank_same]
    rfl
  · rw [setBank_same]
    exact addSegment_acc ..

/-! ### The grant (R17, R18, R44) -/

theorem copyAccess_read {s : State} {k j : Fin 4} (copy : s.copy = .wantRead) (target : bankTarget s = some k) (src : (s.banks[k]).src = some j) :
    copyAccess s = .read (blockAddrs (s.cc.segmentAddr j (s.banks[k]).progress)) := by
  unfold copyAccess
  rw [target]
  dsimp only
  rw [copy]
  dsimp only
  rw [src]

/-- The state that a copy write leaves for the end of its step. -/
def copyWritten (s : State) (k : Fin 4) (buffer : List Byte) : State :=
  if isMarked s k (s.banks[k]).progress = true then s else copyLanded s k (s.banks[k]).progress buffer

theorem grantCopy_write {s : State} {k : Fin 4} {buffer : List Byte} (copy : s.copy = .wantWrite buffer) (target : bankTarget s = some k) :
    grantCopy s = retakeStalled (copyStepEnd (copyWritten s k buffer) k) := by
  unfold grantCopy copyAccess copyWritten
  rw [copy, target]
  dsimp only
  split
  · rfl
  · rfl

/-! The System Port has no part in the write of a copy step, nor in the step's end. -/

theorem freeRetired_port (s : State) (j : Fin 4) (p : Port) : freeRetired { s with port := p } j = { freeRetired s j with port := p } := by
  by_cases h : (s.banks[j]).state = .retiring
  · rw [show freeRetired s j = _ from if_pos h]
    exact if_pos h
  · rw [show freeRetired s j = _ from if_neg h]
    exact if_neg h

theorem sealComplete_port (s : State) (k : Fin 4) (p : Port) : sealComplete { s with port := p } k = { sealComplete s k with port := p } := by
  by_cases h : (s.banks[k]).state = .sealing
  · rw [show sealComplete s k = _ from if_pos h]
    exact if_pos h
  · rw [show sealComplete s k = _ from if_neg h]
    exact if_neg h

theorem copyComplete_port (s : State) (k : Fin 4) (p : Port) : copyComplete { s with port := p } k = { copyComplete s k with port := p } := by
  have alone (s : State) (h : (s.banks[k]).src = none) :
      copyComplete s k = sealComplete (copyIdle (setBank s k { s.banks[k] with src := none })) k := by
    unfold copyComplete
    rw [h]
  have sourced (s : State) (j : Fin 4) (h : (s.banks[k]).src = some j) :
      copyComplete s k = sealComplete (freeRetired (copyIdle (setBank s k { s.banks[k] with src := none })) j) k := by
    unfold copyComplete
    rw [h]
  obtain ⟨source, h⟩ : ∃ source, (s.banks[k]).src = source := ⟨_, rfl⟩
  cases source with
  | none =>
    rw [alone s h]
    exact (alone { s with port := p } h).trans (sealComplete_port (copyIdle (setBank s k { s.banks[k] with src := none })) k p)
  | some j =>
    rw [sourced s j h, ← sealComplete_port, ← freeRetired_port]
    exact sourced { s with port := p } j h

theorem copyStepEnd_port (s : State) (k : Fin 4) (p : Port) : copyStepEnd { s with port := p } k = { copyStepEnd s k with port := p } := by
  by_cases more : copySkip s k < s.cc.segments
  · rw [(copyStepEnd_eq s k).trans (if_pos more)]
    exact (copyStepEnd_eq _ k).trans (if_pos more)
  · rw [(copyStepEnd_eq s k).trans (if_neg more)]
    rw [← copyComplete_port]
    exact (copyStepEnd_eq { s with port := p } k).trans (if_neg more)

theorem setMark_port (s : State) (k : Fin 4) (seg : Nat) (p : Port) : setMark { s with port := p } k seg = { setMark s k seg with port := p } := by
  by_cases h0 : s.map0.lentTo = some k
  · rw [show setMark s k seg = _ from if_pos h0]
    exact if_pos h0
  · by_cases h1 : s.map1.lentTo = some k
    · rw [show setMark s k seg = _ from (if_neg h0).trans (if_pos h1)]
      exact (if_neg h0).trans (if_pos h1)
    · rw [show setMark s k seg = _ from (if_neg h0).trans (if_neg h1)]
      exact (if_neg h0).trans (if_neg h1)

theorem copyWritten_port (s : State) (k : Fin 4) (buffer : List Byte) (p : Port) :
    copyWritten { s with port := p } k buffer = { copyWritten s k buffer with port := p } := by
  by_cases marked : isMarked s k (s.banks[k]).progress = true
  · rw [show copyWritten s k buffer = _ from if_pos marked]
    exact if_pos marked
  · have clear : isMarked s k (s.banks[k]).progress = false := by simpa using marked
    rw [show copyWritten s k buffer = _ from if_neg marked, copyLanded_eq s k _ buffer clear]
    refine (if_neg marked).trans ((copyLanded_eq { s with port := p } k _ buffer clear).trans ?_)
    exact congrArg (setBank · k (addSegment s.cc.columns { s.banks[k] with written := (s.banks[k]).written + 1 } (s.banks[k]).progress buffer))
      (setMark_port (placeWrite s (cellsFrom (s.cc.segmentAddr k (s.banks[k]).progress) buffer)) k (s.banks[k]).progress p)

theorem retakeStalled_moving (s : State) (h : ∀ q lanes, s.port.phase ≠ .sealStall q lanes) : retakeStalled s = s := by
  unfold retakeStalled
  split
  · next q lanes phase => exact absurd phase (h q lanes)
  · rfl

theorem copyStepEnd_portKept (s : State) (k : Fin 4) : (copyStepEnd s k).port = s.port := by
  unfold copyStepEnd
  rw [copyAdvance_only]
  rfl

theorem copyWritten_written (s : State) (k : Fin 4) (buffer : List Byte) (lent : lentTo s k) :
    CopyWritten s (copyWritten s k buffer) k (s.banks[k]).progress := by
  unfold copyWritten
  split
  · exact .refl ..
  · next marked => exact (copyLanded_spec s k _ buffer (by simpa using marked) lent).1

/-- What the end of a copy step leaves, told of the state before the write that ends it. -/
theorem copyStep_clauses (s u t : State) (k j : Fin 4) (ne : j ≠ k) (src : (s.banks[k]).src = some j)
    (written : CopyWritten s u k (s.banks[k]).progress) (p : Nat) (low : (s.banks[k]).progress < p) (stepped : CopyStepped u t k j p)
    (high : p ≤ s.cc.segments) :
    (t.banks[k]).progress = p
    ∧ (p < s.cc.segments → isMarked s k p = false ∧ t.copy = .wantRead ∧ (t.banks[k]).src = some j
        ∧ (t.banks[k]).state = (s.banks[k]).state ∧ t.banks[j] = s.banks[j] ∧ t.passed = s.passed)
    ∧ (p = s.cc.segments → t.copy = .idle ∧ (t.banks[k]).src = none ∧ t.passed = { s.passed with copy := 0 }
        ∧ (t.banks[k]).state = (if (s.banks[k]).state = .sealing then .ready else (s.banks[k]).state)
        ∧ ((s.banks[k]).state = .sealing → ¬ lentTo t k)
        ∧ t.banks[j] = (if (s.banks[j]).state = .retiring then (s.banks[j]).freed else s.banks[j]))
    ∧ (∀ i, i ≠ k → i ≠ j → t.banks[i] = s.banks[i])
    ∧ t.banks[k] = { s.banks[k] with
        state := (t.banks[k]).state, written := (u.banks[k]).written, src := (t.banks[k]).src,
        progress := (t.banks[k]).progress, acc := (u.banks[k]).acc }
    ∧ t = { s with mem := u.mem, channel := u.channel, banks := t.banks, map0 := t.map0, map1 := t.map1,
                   copy := t.copy, passed := t.passed }
    ∧ (isMarked u k (s.banks[k]).progress = true → lentTo t k → isMarked t k (s.banks[k]).progress = true) := by
  obtain ⟨own, others, marks, only⟩ := written
  obtain ⟨m, c, banks, m0, m1, rfl⟩ : ∃ m c banks m0 m1, u = { s with mem := m, channel := c, banks := banks, map0 := m0, map1 := m1 } :=
    ⟨_, _, _, _, _, only⟩
  dsimp only at own others
  have source : (banks[k]).src = some j := (congrArg Bank.src own).trans src
  have state : (banks[k]).state = (s.banks[k]).state := by rw [own]
  have host : (banks[k]).host = (s.banks[k]).host := by rw [own]
  have geom : (banks[k]).geom = (s.banks[k]).geom := by rw [own]
  obtain ⟨goes, ends⟩ := stepped
  have record := setBank_same { s with mem := m, channel := c, banks := banks, map0 := m0, map1 := m1 } k { banks[k] with progress := p }
  have apart {i : Fin 4} (e : i ≠ k) := setBank_ne { s with mem := m, channel := c, banks := banks, map0 := m0, map1 := m1 }
    { banks[k] with progress := p } e
  rcases Nat.lt_or_eq_of_le high with more | done
  · obtain ⟨clear, rfl⟩ := goes more
    refine ⟨congrArg Bank.progress record, fun _ => ⟨?_, rfl, (congrArg Bank.src record).trans source, (congrArg Bank.state record).trans state, ?_, rfl⟩,
      fun done => absurd done (Nat.ne_of_lt more), fun i ek _ => (apart ek).trans (others i ek), ?_, rfl, fun marked _ => marked⟩
    · rw [← marks p (Nat.ne_of_gt low)]
      exact clear
    · exact (apart ne).trans (others j ne)
    · dsimp only
      rw [record]
      dsimp only
      rw [host, geom]
  · obtain ⟨tk, tj, ti, closed, maps, tonly⟩ := ends done
    obtain ⟨banks', m0', m1', rfl⟩ : ∃ banks' m0' m1', t = { s with
        mem := m, channel := c, banks := banks', map0 := m0', map1 := m1', copy := .idle, passed := { s.passed with copy := 0 } } :=
      ⟨_, _, _, tonly⟩
    rw [record] at tk closed maps
    dsimp only at tk tj ti closed maps state
    rw [state] at tk closed maps
    refine ⟨congrArg Bank.progress tk, fun more => absurd done (Nat.ne_of_lt more), fun _ => ⟨rfl, congrArg Bank.src tk, rfl, congrArg Bank.state tk, closed, ?_⟩,
      fun i ek ej => (ti i ek ej).trans ((apart ek).trans (others i ek)), ?_, rfl, fun marked lent => ?_⟩
    · exact tj.trans (by rw [apart ne, others j ne])
    · dsimp only
      rw [tk]
      dsimp only
      rw [host, geom]
    · by_cases sealing : (s.banks[k]).state = .sealing
      · exact absurd lent (closed sealing)
      · obtain ⟨same0, same1⟩ := maps sealing
        exact (isMarked_congr same0 same1 k _).trans marked

/-- The end of the copy step whose write leaves `u`: everything the progress passes was marked before. -/
theorem copyWritten_stepped {s u : State} {k j : Fin 4} (ne : j ≠ k) (fills : (s.banks[k]).state.fills = true)
    (src : (s.banks[k]).src = some j) (below : (s.banks[k]).progress < s.cc.segments) (written : CopyWritten s u k (s.banks[k]).progress) :
    ∃ p, (s.banks[k]).progress < p ∧ p ≤ s.cc.segments
      ∧ (∀ q, (s.banks[k]).progress < q → q < p → isMarked s k q = true) ∧ CopyStepped u (copyStepEnd u k) k j p := by
  obtain ⟨own, -, marks, only⟩ := written
  have segments : u.cc.segments = s.cc.segments := by rw [only]
  have progress : (u.banks[k]).progress = (s.banks[k]).progress := by rw [own]
  obtain ⟨p, low, high, passed, stepped⟩ := copyStepEnd_stepped u k j (by rw [own]; exact fills) (by rw [own]; exact src) ne
    (by rw [progress, segments]; exact below)
  rw [progress] at low passed
  rw [segments] at high
  refine ⟨p, low, high, fun q above less => ?_, stepped⟩
  rw [← marks q (Nat.ne_of_gt above)]
  exact passed q above less

/-- Settles O45: the read, the write landed or dropped with the end of its step, and the canvas write held. -/
theorem copyStepsFillTheGaps : Obligations.CopyStepsFillTheGaps := by
  unfold Obligations.CopyStepsFillTheGaps
  intro s k j law target src
  dsimp only
  have fills := bankTarget_fills target
  have lent : lentTo s k := (law.2.1 k).mpr fills
  refine ⟨fun copy => ?_, fun buffer copy ne below moving => ?_, fun buffer q lanes copy stalled => ?_⟩
  · have data : Memory.readAll s.mem (blockAddrs (s.cc.segmentAddr j (s.banks[k]).progress))
        = (List.range 64).map fun i => Memory.read s.mem (s.cc.segmentAddr j (s.banks[k]).progress + i) := List.map_map
    rw [← data]
    show grantCopy s = _
    unfold grantCopy
    rw [copy, target, copyAccess_read copy target src]
    rfl
  · have written := copyWritten_written s k buffer lent
    have step : grant s .copy = copyStepEnd (copyWritten s k buffer) k := by
      refine (grantCopy_write copy target).trans (retakeStalled_moving _ ?_)
      rw [copyStepEnd_portKept, written.2.2.2]
      exact moving
    rw [step]
    obtain ⟨p, low, high, passed, stepped⟩ := copyWritten_stepped ne fills src below written
    obtain ⟨progress, goes, ends, others, record, only, marks⟩ := copyStep_clauses s _ _ k j ne src written p low stepped high
    generalize copyStepEnd (copyWritten s k buffer) k = t at progress goes ends others record only marks ⊢
    have mem : t.mem = (copyWritten s k buffer).mem := by rw [only]
    have channel : t.channel = (copyWritten s k buffer).channel := by rw [only]
    have count : (t.banks[k]).written = ((copyWritten s k buffer).banks[k]).written := by rw [record]
    have sums : (t.banks[k]).acc = ((copyWritten s k buffer).banks[k]).acc := by rw [record]
    rw [← count, ← sums] at record
    rw [← mem, ← channel] at only
    refine ⟨fun marked => ?_, fun clear => ?_, ⟨p, low, high, passed, progress, goes, ends⟩, others, record, only⟩
    · have dropped : copyWritten s k buffer = s := if_pos marked
      rw [dropped] at mem channel count sums
      exact ⟨mem, channel, count, sums⟩
    · have landed : copyWritten s k buffer = copyLanded s k (s.banks[k]).progress buffer := if_neg (by rw [clear]; decide)
      obtain ⟨-, memory, busy, more, marked, sum⟩ := copyLanded_spec s k (s.banks[k]).progress buffer clear lent
      rw [landed] at mem channel count sums marks
      exact ⟨mem.trans memory, channel.trans busy, count.trans more, marks marked, fun z => by rw [sums]; exact sum z⟩
  · have idle : grant { s with port := { s.port with phase := .idle } } .copy
        = { copyStepEnd (copyWritten s k buffer) k with port := { s.port with phase := .idle } } := by
      refine (grantCopy_write (s := { s with port := { s.port with phase := .idle } }) copy target).trans ?_
      rw [copyWritten_port, copyStepEnd_port, retakeStalled_moving _ (by simp)]
    have port : (copyStepEnd (copyWritten s k buffer) k).port = s.port := by
      rw [copyStepEnd_portKept, (copyWritten_written s k buffer lent).2.2.2]
    have back : ({ grant { s with port := { s.port with phase := .idle } } .copy with port := s.port } : State)
        = copyStepEnd (copyWritten s k buffer) k := by
      rw [idle, ← port]
    have held : (copyStepEnd (copyWritten s k buffer) k).port.phase = .sealStall q lanes := by rw [port]; exact stalled
    have step : grant s .copy = retakeStalled (copyStepEnd (copyWritten s k buffer) k) := grantCopy_write copy target
    rw [back, step]
    generalize copyStepEnd (copyWritten s k buffer) k = u at held ⊢
    unfold retakeStalled
    rw [held]
    refine ⟨fun none => ?_, fun sealing => if_pos (Option.isSome_iff_ne_none.mpr sealing)⟩
    rw [none]
    rfl

end Sys2Proof.Machine
end

section
/-! The status block's image, field by field (O47). -/

namespace Sys2Proof.Machine

/-! ### Words and their bytes -/

theorem wordOf_byteOf (w : Word) : wordOf (byteOf w 0) (byteOf w 1) (byteOf w 2) (byteOf w 3) = w := by
  unfold wordOf byteOf
  refine BitVec.eq_of_getLsbD_eq fun i h => ?_
  rw [BitVec.getLsbD_append, BitVec.getLsbD_append, BitVec.getLsbD_append]
  simp only [BitVec.getLsbD_extractLsb']
  by_cases h0 : i < 8
  · simp [h0]
  · by_cases h1 : i < 16
    · simp [h0, show i - 8 < 8 by omega, show 8 + (i - 8) = i by omega]
    · by_cases h2 : i < 24
      · simp [h0, show ¬ i - 8 < 8 by omega, show i - 8 - 8 < 8 by omega, show 16 + (i - 8 - 8) = i by omega]
      · simp [h0, show ¬ i - 8 < 8 by omega, show ¬ i - 8 - 8 < 8 by omega, show i - 8 - 8 - 8 < 8 by omega, show 24 + (i - 8 - 8 - 8) = i by omega]

theorem getLsbD_of_field {w : Word} {i : Nat} {b : Bool} (h : field w i 1 = bit b) : w.getLsbD i = b := by
  have low := testBit_field w i 1 0
  rw [h] at low
  cases b <;> simpa [bit] using low.symm

/-- A word of two halves. -/
def halves (a b : Nat) : Word := pack [(a, 0), (b, 16)]

theorem field_halves {a b : Nat} (ha : a < 65536) (hb : b < 65536) (lo len : Nat) :
    field (halves a b) lo len = (a + 65536 * b) / 2 ^ lo % 2 ^ len := by
  have word : halves a b = BitVec.ofNat 32 (a + 65536 * b) := by
    unfold halves
    rw [pack_eq]
    · simp [fieldSum]
    · simp only [fieldsFit, and_true]
      omega
  rw [word, field_ofNat (by omega)]

/-- A field of the low half, and the same of the high half. -/
theorem field_half {a b lo len : Nat} (ha : a < 65536) (hb : b < 65536) (k : Nat) (inside : lo + len ≤ 16) :
    field (halves a b) (16 * (k % 2) + lo) len = (if k % 2 = 0 then a else b) / 2 ^ lo % 2 ^ len := by
  rw [field_halves ha hb, Nat.pow_add]
  rcases Nat.mod_two_eq_zero_or_one k with h | h
  · have split : 65536 * b = 2 ^ lo * (2 ^ len * (2 ^ (16 - lo - len) * b)) := by
      rw [← Nat.mul_assoc, ← Nat.mul_assoc, ← Nat.pow_add, ← Nat.pow_add, show lo + len + (16 - lo - len) = 16 by omega]
    rw [h, if_pos rfl, split, Nat.mul_zero, Nat.pow_zero, Nat.one_mul, Nat.add_mul_div_left _ _ (Nat.two_pow_pos lo),
      Nat.add_mul_mod_self_left]
  · rw [h, if_neg (by decide), ← Nat.div_div_eq_div_mul, Nat.mul_one, show (2 : Nat) ^ 16 = 65536 from rfl,
      Nat.add_mul_div_left _ _ (by decide), Nat.div_eq_of_lt ha, Nat.zero_add]

/-! ### Words of flags -/

theorem getLsbD_pack (fields : List (Nat × Nat)) (j : Nat) :
    (pack fields).getLsbD j = fields.any fun f => decide (j < 32) && !decide (j < f.2) && f.1.testBit (j - f.2) := by
  have fold : ∀ (fields : List (Nat × Nat)) (w : Word),
      (fields.foldl (fun w f => w ||| (BitVec.ofNat 32 f.1 <<< f.2)) w).getLsbD j
        = (w.getLsbD j || fields.any fun f => decide (j < 32) && !decide (j < f.2) && f.1.testBit (j - f.2)) := by
    intro fields
    induction fields with
    | nil => simp
    | cons f rest ih =>
      intro w
      rw [List.foldl_cons, ih, List.any_cons, BitVec.getLsbD_or, BitVec.getLsbD_shiftLeft, BitVec.getLsbD_ofNat, Bool.or_assoc]
      by_cases small : j < 32
      · simp [small, show j - f.2 < 32 by omega]
      · simp [small]
  unfold pack
  rw [fold, show BitVec.getLsbD (0 : Word) j = false from BitVec.getLsbD_zero, Bool.false_or]

theorem getLsbD_fixtureFlags (f : Fin 128 → Bool) (i : Fin 128) :
    (fixtureFlags f ⟨i.val / 32, by omega⟩).getLsbD (i.val % 32) = f i := by
  unfold fixtureFlags
  rw [getLsbD_pack, List.any_map, Bool.eq_iff_iff, List.any_eq_true]
  have own (m : Fin 32) (h : m.val = i.val % 32) : (⟨32 * (i.val / 32) + m.val, by omega⟩ : Fin 128) = i := Fin.ext (by dsimp only; omega)
  constructor
  · rintro ⟨m, -, h⟩
    simp only [Function.comp_apply, Bool.and_eq_true, Bool.not_eq_true', decide_eq_true_eq, decide_eq_false_iff_not] at h
    obtain ⟨⟨-, above⟩, set⟩ := h
    by_cases same : m.val = i.val % 32
    · rw [own m same, same, Nat.sub_self] at set
      cases value : f i with
      | true => rfl
      | false => rw [value] at set; exact absurd set (by decide)
    · have high : 1 ≤ i.val % 32 - m.val := by omega
      have clear : (bit (f ⟨32 * (i.val / 32) + m.val, by omega⟩)).testBit (i.val % 32 - m.val) = false :=
        Nat.testBit_lt_two_pow (Nat.lt_of_le_of_lt (bit_le _) (Nat.lt_of_lt_of_le (by decide) (Nat.pow_le_pow_right (by decide) high)))
      exact absurd (set.symm.trans clear) (by decide)
  · intro set
    refine ⟨⟨i.val % 32, by omega⟩, List.mem_finRange _, ?_⟩
    rw [Function.comp_apply, own ⟨i.val % 32, by omega⟩ rfl, set]
    simp [bit, show i.val % 32 < 32 by omega]

/-! ### The words of the image (R198) -/

theorem length_statusWords (s : State) : (statusWords s).length = 64 := by simp [statusWords]

theorem length_statusImage (s : State) : (statusImage s).length = 256 := by
  unfold statusImage
  rw [length_flatMap_groups (n := 4) bytesOf (fun _ => rfl), length_statusWords]

theorem statusImage_byte (s : State) (i j : Nat) (w : Word) (word : (statusWords s)[i]? = some w) (h : j < 4) :
    (statusImage s)[4 * i + j]? = some (byteOf w j) := by
  unfold statusImage
  rw [getElem?_flatMap_groups (n := 4) bytesOf (by decide) (fun _ => rfl), show (4 * i + j) / 4 = i by omega, show (4 * i + j) % 4 = j by omega, word]
  show (bytesOf w)[j]? = _
  interval_cases j <;> rfl

/-- The word at an offset of the image. -/
def imageWord (s : State) (o : Nat) : Word :=
  wordOf ((statusImage s).getD o 0) ((statusImage s).getD (o + 1) 0) ((statusImage s).getD (o + 2) 0) ((statusImage s).getD (o + 3) 0)

theorem imageWord_eq (s : State) (i : Nat) (w : Word) (word : (statusWords s)[i]? = some w) {o : Nat} (at' : o = 4 * i) : imageWord s o = w := by
  have byte (j : Nat) (h : j < 4) : (statusImage s).getD (o + j) 0 = byteOf w j := by
    rw [List.getD_eq_getElem?_getD, at', statusImage_byte s i j w word h]
    rfl
  unfold imageWord
  rw [show (statusImage s).getD o 0 = _ from byte 0 (by decide), byte 1 (by decide), byte 2 (by decide), byte 3 (by decide)]
  exact wordOf_byteOf w

/-- The first nine words of the image. -/
def statusHead (s : State) : List Word :=
  [s.ru.count, unitWord s, bankStatesWord s, halves (hostNumber s.banks[0]) (hostNumber s.banks[1]),
    halves (hostNumber s.banks[2]) (hostNumber s.banks[3]),
    pack [(s.tu.levels.toNat, 0), (s.tu.pending.toNat, 8), (s.tu.overrun.toNat, 16)],
    s.wd.discards, BitVec.ofNat 32 s.rw.prod, halves s.lamps[0].replaced.toNat s.lamps[1].replaced.toNat]

theorem getElem?_append_middle {α : Type} (pre mid post : List α) {n : Nat} (len : pre.length = n) (i : Nat) (h : i < mid.length) :
    (pre ++ (mid ++ post))[n + i]? = mid[i]? := by
  rw [List.getElem?_append_right (by omega), len, Nat.add_sub_cancel_left, List.getElem?_append_left h]

theorem statusWords_head (s : State) (i : Nat) (h : i < 9) : (statusWords s)[i]? = (statusHead s)[i]? := by
  unfold statusWords
  simp only [List.append_assoc]
  exact List.getElem?_append_left h

theorem statusWords_unplaced (s : State) (w : Fin 4) :
    (statusWords s)[9 + w.val]? = some (fixtureFlags (fun i => !placed s.cc i) w) := by
  unfold statusWords
  simp only [List.append_assoc]
  rw [getElem?_append_middle (n := 9) _ _ _ rfl _ (by simp)]
  simp

theorem statusWords_clipped (s : State) (w : Fin 4) :
    (statusWords s)[13 + w.val]? = some (fixtureFlags (fun i => (s.le.fixtures[i]).clipped) w) := by
  unfold statusWords
  rw [List.append_assoc, List.append_assoc, List.append_assoc, getElem?_append_middle _ _ _ (by simp) _ (by simp)]
  simp

theorem statusWords_links (s : State) (j : Fin 12) :
    (statusWords s)[17 + j.val]? = some (halves (linkBits s.lsv.links[2 * j.val]) (linkBits s.lsv.links[2 * j.val + 1])) := by
  unfold statusWords
  rw [List.append_assoc, List.append_assoc, getElem?_append_middle _ _ _ (by simp) _ (by simp)]
  simp [halves]

theorem statusWords_counts (s : State) (l : Fin 24) :
    (statusWords s)[29 + l.val]? = some (halves (s.so.links[l]).late.toNat (s.so.links[l]).starves.toNat) := by
  unfold statusWords
  rw [List.append_assoc, getElem?_append_middle _ _ _ (by simp) _ (by simp)]
  simp [halves]

theorem statusWords_rest (s : State) (i : Nat) (low : 53 ≤ i) (high : i < 64) : (statusWords s)[i]? = some 0 := by
  unfold statusWords
  rw [List.getElem?_append_right (by simp; omega)]
  rw [List.getElem?_replicate, if_pos (by simp; omega)]

/-! ### The fields of each word -/

/-- The active camera's field: 0 with none, else its number and one. -/
def cameraField (s : State) : Nat := match s.tu.camera with | none => 0 | some i => i.val + 1

/-- The field of the send in progress: 0 with none, else 1 for FIRST and 2 for AGAIN. -/
def sendField (s : State) : Nat := match s.so.send with | none => 0 | some d => if d.kind = .first then 1 else 2

theorem cameraField_le (s : State) : cameraField s ≤ 8 := by
  unfold cameraField
  split <;> omega

theorem sendField_le (s : State) : sendField s ≤ 2 := by
  unfold sendField
  split
  · omega
  · split <;> omega

theorem unitWord_eq (s : State) :
    unitWord s = pack [(s.ru.lock.code, 0), (bit s.ru.fault, 3), (cameraField s, 4), (s.tu.look.code, 8), (sendField s, 12),
      (s.so.lastShown.toNat, 16)] := by
  unfold unitWord cameraField sendField
  cases s.so.send with
  | none => rfl
  | some d => obtain ⟨kind, bank, tag, parts⟩ := d; cases kind <;> rfl

theorem unitWord_fields (s : State) :
    field (unitWord s) 0 3 = s.ru.lock.code ∧ (unitWord s).getLsbD 3 = s.ru.fault ∧ field (unitWord s) 4 4 = cameraField s
    ∧ field (unitWord s) 8 2 = s.tu.look.code ∧ field (unitWord s) 12 2 = sendField s
    ∧ field (unitWord s) 16 8 = s.so.lastShown.toNat := by
  have lock := s.ru.lock.code_le
  have fault := bit_le s.ru.fault
  have camera := cameraField_le s
  have look : s.tu.look.code ≤ 2 := by cases s.tu.look <;> decide
  have send := sendField_le s
  have shown : s.so.lastShown.toNat < 256 := s.so.lastShown.isLt
  rw [unitWord_eq, pack_eq _ (by simp only [fieldsFit, and_true]; omega)]
  have sum : fieldSum 0 [(s.ru.lock.code, 0), (bit s.ru.fault, 3), (cameraField s, 4), (s.tu.look.code, 8), (sendField s, 12),
      (s.so.lastShown.toNat, 16)] = s.ru.lock.code + 8 * bit s.ru.fault + 16 * cameraField s + 256 * s.tu.look.code
        + 4096 * sendField s + 65536 * s.so.lastShown.toNat := by simp [fieldSum]
  rw [sum]
  refine ⟨?_, getLsbD_of_field ?_, ?_, ?_, ?_, ?_⟩ <;> rw [field_ofNat (by omega)] <;> omega

theorem bankStatesWord_fields (s : State) (k : Fin 4) :
    field (bankStatesWord s) (8 * k.val) 3 = (s.banks[k]).state.code
    ∧ (bankStatesWord s).getLsbD (8 * k.val + 7) = (s.banks[k]).host.isSome := by
  have code (st : BankState) : st.code ≤ 7 := by cases st <;> decide
  have word : bankStatesWord s = pack ((List.finRange 4).flatMap fun k =>
    [((s.banks[k]).state.code, 8 * k.val), (bit (s.banks[k]).host.isSome, 8 * k.val + 7)]) := rfl
  obtain ⟨c, hc⟩ : ∃ c : Fin 4 → Nat, ∀ k : Fin 4, (s.banks[k]).state.code = c k := ⟨_, fun _ => rfl⟩
  obtain ⟨p, hp⟩ : ∃ p : Fin 4 → Bool, ∀ k : Fin 4, (s.banks[k]).host.isSome = p k := ⟨_, fun _ => rfl⟩
  have small (k : Fin 4) : c k ≤ 7 := by rw [← hc]; exact code _
  simp only [hc, hp] at word ⊢
  have c0 := small 0
  have c1 := small 1
  have c2 := small 2
  have c3 := small 3
  have p0 := bit_le (p 0)
  have p1 := bit_le (p 1)
  have p2 := bit_le (p 2)
  have p3 := bit_le (p 3)
  have value : bankStatesWord s = BitVec.ofNat 32 (c 0 + 128 * bit (p 0) + 256 * c 1 + 32768 * bit (p 1) + 65536 * c 2
      + 8388608 * bit (p 2) + 16777216 * c 3 + 2147483648 * bit (p 3)) := by
    rw [word, show List.finRange 4 = [0, 1, 2, 3] from rfl]
    simp only [List.flatMap_cons, List.flatMap_nil, List.cons_append, List.nil_append, List.append_nil]
    rw [pack_eq]
    · simp [fieldSum]
    · simp [fieldsFit]
      omega
  rw [value]
  match k with
  | 0 | 1 | 2 | 3 => exact ⟨by rw [field_ofNat (by omega)]; simp; omega, getLsbD_of_field (by rw [field_ofNat (by omega)]; simp; omega)⟩

theorem linkBits_eq (r : LinkRecord) (miss : r.miss ≤ 15) :
    linkBits r = r.state.code + 16 * r.miss + 256 * bit r.checkError + 512 * bit r.framingError + 1024 * bit r.overrun
      + 2048 * bit r.inhibit := by
  have code := r.state.code_le
  have check := bit_le r.checkError
  have framing := bit_le r.framingError
  have overrun := bit_le r.overrun
  have inhibit := bit_le r.inhibit
  unfold linkBits
  rw [pack_eq _ (by simp only [fieldsFit, and_true]; omega), BitVec.toNat_ofNat, Nat.mod_eq_of_lt]
  · simp [fieldSum]
  · simp only [fieldSum, List.foldl_cons, List.foldl_nil]
    omega

/-- The half word of link `l`, beside that of the other link of its word. -/
theorem linkHalf_fields {a b : Nat} (ha : a < 65536) (hb : b < 65536) (l : Nat) (r : LinkRecord) (miss : r.miss ≤ 15)
    (own : (if l % 2 = 0 then a else b) = linkBits r) :
    field (halves a b) (16 * (l % 2)) 2 = r.state.code ∧ field (halves a b) (16 * (l % 2) + 4) 4 = r.miss
    ∧ (halves a b).getLsbD (16 * (l % 2) + 8) = r.checkError ∧ (halves a b).getLsbD (16 * (l % 2) + 9) = r.framingError
    ∧ (halves a b).getLsbD (16 * (l % 2) + 10) = r.overrun ∧ (halves a b).getLsbD (16 * (l % 2) + 11) = r.inhibit := by
  have code := r.state.code_le
  have check := bit_le r.checkError
  have framing := bit_le r.framingError
  have overrun := bit_le r.overrun
  have inhibit := bit_le r.inhibit
  have part (lo len : Nat) (inside : lo + len ≤ 16) := field_half (lo := lo) (len := len) ha hb l inside
  rw [own, linkBits_eq r miss] at part
  refine ⟨(part 0 2 (by decide)).trans ?_, (part 4 4 (by decide)).trans ?_, getLsbD_of_field ((part 8 1 (by decide)).trans ?_),
    getLsbD_of_field ((part 9 1 (by decide)).trans ?_), getLsbD_of_field ((part 10 1 (by decide)).trans ?_),
    getLsbD_of_field ((part 11 1 (by decide)).trans ?_)⟩ <;> omega

theorem linkBits_lt (r : LinkRecord) (miss : r.miss ≤ 15) : linkBits r < 65536 := by
  have code := r.state.code_le
  have check := bit_le r.checkError
  have framing := bit_le r.framingError
  have overrun := bit_le r.overrun
  have inhibit := bit_le r.inhibit
  rw [linkBits_eq r miss]
  omega

theorem hostNumber_lt (b : Bank) : hostNumber b < 65536 := by
  unfold hostNumber
  split
  · decide
  · exact BitVec.isLt _

theorem tallyWord_fields (x y z : Byte) :
    let w := pack [(x.toNat, 0), (y.toNat, 8), (z.toNat, 16)]
    field w 0 8 = x.toNat ∧ field w 8 8 = y.toNat ∧ field w 16 8 = z.toNat := by
  have hx := x.isLt
  have hy := y.isLt
  have hz := z.isLt
  have word : pack [(x.toNat, 0), (y.toNat, 8), (z.toNat, 16)] = BitVec.ofNat 32 (x.toNat + 256 * y.toNat + 65536 * z.toNat) := by
    rw [pack_eq _ (by simp only [fieldsFit, and_true]; omega)]
    simp [fieldSum]
  dsimp only
  rw [word, field_ofNat (by omega), field_ofNat (by omega), field_ofNat (by omega)]
  omega

theorem field_halves_low {a b : Nat} (ha : a < 65536) (hb : b < 65536) : field (halves a b) 0 16 = a := by
  rw [field_halves ha hb]
  omega

theorem field_halves_high {a b : Nat} (ha : a < 65536) (hb : b < 65536) : field (halves a b) 16 16 = b := by
  rw [field_halves ha hb]
  omega

/-- Settles O47: the two notices, and the image word by word. -/
theorem frameNoticesRefreshTheStatusBlock : Obligations.FrameNoticesRefreshTheStatusBlock := by
  unfold Obligations.FrameNoticesRefreshTheStatusBlock
  refine ⟨fun s n rest => ⟨fun frames => ?_, fun none => ?_, fun frames => ?_, fun none => ?_⟩, fun s => ?_⟩
  · show execStatusBlockRewrite s = _
    unfold execStatusBlockRewrite
    rw [frames]
    dsimp only
    rw [rwRaise_spec]
    cases claim : s.rw.claim <;> rfl
  · show execStatusBlockRewrite s = _
    unfold execStatusBlockRewrite
    rw [none]
  · show execDiscardFlagClear s = _
    unfold execDiscardFlagClear
    rw [frames]
  · show execDiscardFlagClear s = _
    unfold execDiscardFlagClear
    rw [none]
  · intro at32
    have word (i : Nat) (w : Word) (h : (statusWords s)[i]? = some w) {o : Nat} (at' : o = 4 * i) : at32 o = w := imageWord_eq s i w h at'
    have head (i : Nat) (h : i < 9) {w : Word} (own : (statusHead s)[i]? = some w) {o : Nat} (at' : o = 4 * i) : at32 o = w :=
      word i w ((statusWords_head s i h).trans own) at'
    obtain ⟨lock, fault, camera, look, send, shown⟩ := unitWord_fields s
    have unit : at32 4 = unitWord s := head 1 (by decide) rfl rfl
    have states : at32 8 = bankStatesWord s := head 2 (by decide) rfl rfl
    have lamps : at32 0x20 = halves s.lamps[0].replaced.toNat s.lamps[1].replaced.toNat := head 8 (by decide) rfl rfl
    have tally : at32 0x14 = pack [(s.tu.levels.toNat, 0), (s.tu.pending.toNat, 8), (s.tu.overrun.toNat, 16)] := head 5 (by decide) rfl rfl
    obtain ⟨levels, pending, overrun⟩ := tallyWord_fields s.tu.levels s.tu.pending s.tu.overrun
    rw [unit, states, lamps, tally]
    refine ⟨length_statusImage s, head 0 (by decide) rfl rfl, head 6 (by decide) rfl rfl, lock, fault, camera, look, send, shown,
      fun k => ⟨(bankStatesWord_fields s k).1, (bankStatesWord_fields s k).2, ?_⟩, fun small => ?_, fun l => ?_, fun i => ⟨?_, ?_⟩,
      fun l => ?_, fun o low high => ?_, levels, pending, overrun, fun l law => ?_⟩
    · match k with
      | 0 => exact (congrArg (field · 0 16) (head 3 (by decide) rfl rfl)).trans (field_halves_low (hostNumber_lt _) (hostNumber_lt _))
      | 1 => exact (congrArg (field · 16 16) (head 3 (by decide) rfl rfl)).trans (field_halves_high (hostNumber_lt _) (hostNumber_lt _))
      | 2 => exact (congrArg (field · 0 16) (head 4 (by decide) rfl rfl)).trans (field_halves_low (hostNumber_lt _) (hostNumber_lt _))
      | 3 => exact (congrArg (field · 16 16) (head 4 (by decide) rfl rfl)).trans (field_halves_high (hostNumber_lt _) (hostNumber_lt _))
    · rw [head 7 (by decide) rfl rfl, field_ofNat (by omega)]
      omega
    · match l with
      | 0 => exact field_halves_low (s.lamps[0]).replaced.isLt (s.lamps[1]).replaced.isLt
      | 1 => exact field_halves_high (s.lamps[0]).replaced.isLt (s.lamps[1]).replaced.isLt
    · rw [word (9 + i.val / 32) _ (statusWords_unplaced s ⟨i.val / 32, by omega⟩) (by omega), getLsbD_fixtureFlags]
      simp [placed]
    · rw [word (13 + i.val / 32) _ (statusWords_clipped s ⟨i.val / 32, by omega⟩) (by omega), getLsbD_fixtureFlags]
    · rw [word (29 + l.val) _ (statusWords_counts s l) (by omega)]
      have late := (s.so.links[l]).late.isLt
      have starves := (s.so.links[l]).starves.isLt
      rw [field_halves late starves, field_halves late starves]
      omega
    · have byte := statusImage_byte s (o / 4) (o % 4) 0 (statusWords_rest s (o / 4) (by omega) (by omega)) (by omega)
      rw [show 4 * (o / 4) + o % 4 = o by omega] at byte
      rw [byte]
      simp [byteOf]
    · have miss (i : Fin 24) : (s.lsv.links[i]).miss ≤ 15 := (law.2 i).2.2.1
      rw [word (17 + l.val / 2) _ (statusWords_links s ⟨l.val / 2, by omega⟩) (by omega)]
      refine linkHalf_fields (linkBits_lt _ (miss ⟨2 * (l.val / 2), by omega⟩)) (linkBits_lt _ (miss ⟨2 * (l.val / 2) + 1, by omega⟩))
        l.val s.lsv.links[l] (miss l) ?_
      rcases Nat.mod_two_eq_zero_or_one l.val with even | odd
      · rw [if_pos even]
        simp only [show 2 * (l.val / 2) = l.val by omega]
      · rw [if_neg (by omega)]
        simp only [show 2 * (l.val / 2) + 1 = l.val by omega]

end Sys2Proof.Machine
end

section
/-! Requests taken at once at the System Port: refused, plain, or with shielded bytes (O15, O16, O17). -/

namespace Sys2Proof.Machine

/-! ### A request that arrives at a port in IDLE (R34) -/

theorem port_of_ready {s : State} (ready : PortReady s) : s.port = ⟨.idle, false, [], s.port.responses⟩ := by
  obtain ⟨phase, claim, arrived⟩ := ready
  obtain ⟨p, hp⟩ : ∃ p, s.port = p := ⟨_, rfl⟩
  rw [hp] at phase claim arrived ⊢
  obtain ⟨ph, cl, ar, responses⟩ := p
  cases phase
  cases claim
  cases arrived
  rfl

theorem settlePort_ready {s : State} (ready : PortReady s) (r : Request) :
    settlePort { s with port := { s.port with arrived := s.port.arrived ++ [r] } } = takeRequest s r := by
  obtain ⟨idle, -, arrived⟩ := ready
  have front : ({ s.port with arrived := [] } : Port) = s.port := by rw [← arrived]
  have settled := settlePort_cons { s with port := { s.port with arrived := s.port.arrived ++ [r] } } r [] idle (by dsimp only; rw [arrived]; rfl)
  dsimp only at settled
  rw [front] at settled
  refine settled.trans ?_
  exact settlePort_none _ ((takeRequest_arrived s r).trans arrived)

theorem arrive_ready {s : State} (ready : PortReady s) (tick : Nat) (r : Request) : arrive s tick r = takeRequest (atTime s tick) r :=
  settlePort_ready (s := atTime s tick) ready r

theorem finishRequest_ready {s : State} (ready : PortReady s) (r : Response) :
    finishRequest s r = { s with port := { s.port with responses := s.port.responses ++ [r] } } := by
  have port := port_of_ready ready
  show ({ s with port := ⟨.idle, false, s.port.arrived, s.port.responses ++ [r]⟩ } : State) = _
  rw [port]

/-- What the checks of R32 leave of a request. -/
theorem requestError_none {r : Request} (h : requestError r = none) :
    r.addr.toNat % 4 = 0 ∧ 1 ≤ r.beats.toNat ∧ r.beats.toNat ≤ 4 ∧ r.addr.toNat % 64 + 16 * r.beats.toNat ≤ 64 := by
  unfold requestError at h
  split at h
  · exact absurd h (by simp)
  · split at h
    · exact absurd h (by simp)
    · split at h
      · exact absurd h (by simp)
      · omega

theorem takeRequest_read {r : Request} (valid : requestError r = none) (kind : r.kind = .read) (s : State) : takeRequest s r = takeRead s r := by
  unfold takeRequest
  rw [valid]
  dsimp only
  rw [kind]

theorem takeRequest_write {r : Request} (valid : requestError r = none) (kind : r.kind = .write) (s : State) :
    takeRequest s r = takeWrite s r := by
  unfold takeRequest
  rw [valid]
  dsimp only
  rw [kind]

/-! ### The bytes that are lost, and those that remain (R39) -/

theorem takeWrite_eq (s : State) {r : Request} (some : reqCells r ≠ []) :
    takeWrite s r = takeRemaining (noteDiscards s r (reqCells r)) ((reqCells r).filter fun c => !cellShielded s c) := by
  unfold takeWrite
  rw [if_neg]
  rwa [List.isEmpty_iff]

/-- The discards of a write are noted as R39 says, and in no other way. -/
theorem noteDiscards_eq {s t : State} {r : Request} (noted : DiscardsNoted s t r) : noteDiscards s r (reqCells r) = t := by
  obtain ⟨whole, lost⟩ := noted
  unfold noteDiscards
  have shield (c : Host.Cell) : cellShielded s c = (s.classOf c.1).isShielded := rfl
  obtain ⟨classOf, e⟩ : ∃ f, f = s.classOf := ⟨_, rfl⟩
  rw [← e] at whole lost shield ⊢
  obtain ⟨found, h⟩ : ∃ found, (reqCells r).find? (cellShielded s) = found := ⟨_, rfl⟩
  rw [h]
  cases found with
  | none =>
    refine (whole fun c mem => ?_).symm
    rw [← shield]
    exact Bool.eq_false_iff.mpr (List.find?_eq_none.mp h c mem)
  | some c =>
    have shielded : (classOf c.1).isShielded = true := (shield c).symm.trans (List.find?_some (p := cellShielded s) h)
    have addr : ((reqCells r).map (·.1)).find? (fun x => (classOf x).isShielded) = some c.1 := by
      have same : (fun x => (classOf x).isShielded) ∘ (fun c : Host.Cell => c.1) = cellShielded s := funext fun c => (shield c).symm
      rw [List.find?_map, same, h]
      rfl
    obtain ⟨cls, hc⟩ : ∃ cls, classOf c.1 = cls := ⟨_, rfl⟩
    rw [hc] at shielded
    dsimp only
    rw [hc]
    cases cls with
    | shielded g =>
      rw [lost c.1 g addr hc]
      unfold noteDiscard
      dsimp only
      split
      · exact (withReports_nil _).symm
      · rfl
    | control | canvas | plain => exact absurd shielded (by decide)

theorem takeCanvasClass_tail (s : State) (cells : List Host.Cell) (a : Nat) (beyond : canvasBytes s.cc.width s.cc.height ≤ a - s.cc.canvasBase) :
    takeCanvasClass s cells a = serving s cells := by
  unfold takeCanvasClass
  dsimp only
  rw [if_pos beyond]
  rfl

/-- Bytes of one class are handled in that class. -/
theorem takeRemaining_class (s : State) (cells : List Host.Cell) (some : cells ≠ []) (cls : AddrClass)
    (all : ∀ c ∈ cells, s.classOf c.1 = cls) :
    ∃ c ∈ cells, (cls = .plain → takeRemaining s cells = serving s cells)
      ∧ (cls = .canvas → takeRemaining s cells = takeCanvasClass s cells c.1)
      ∧ (cls = .control → takeRemaining s cells = takeControlWrite s cells ((c.1 - controlBase s.straps) / 64 * 64)) := by
  unfold takeRemaining
  obtain ⟨classOf, e⟩ : ∃ f, f = s.classOf := ⟨_, rfl⟩
  rw [← e] at all ⊢
  split
  · exact absurd rfl some
  · next c rest =>
    have first := all c (List.mem_cons_self ..)
    refine ⟨c, List.mem_cons_self .., ?_⟩
    rw [first]
    refine ⟨?_, ?_, ?_⟩ <;> rintro rfl <;> rfl

/-- Bytes that are all plain, or all in the tail of the canvas window, are claimed at their own addresses (R42). -/
theorem takeRemaining_own (s : State) (cells : List Host.Cell) (some : cells ≠ [])
    (own : (∀ c ∈ cells, s.classOf c.1 = .plain)
      ∨ ∀ c ∈ cells, s.classOf c.1 = .canvas ∧ canvasBytes s.cc.width s.cc.height ≤ c.1 - s.cc.canvasBase) :
    takeRemaining s cells = serving s cells := by
  rcases own with plain | tail
  · obtain ⟨c, -, served, -⟩ := takeRemaining_class s cells some .plain plain
    exact served rfl
  · obtain ⟨c, mem, -, canvas, -⟩ := takeRemaining_class s cells some .canvas fun c h => (tail c h).1
    rw [canvas rfl, takeCanvasClass_tail s _ _ (tail c mem).2]

theorem portErrorWord_eq (r : Request) :
    pack [(kindCode r.kind, 0), (r.beats.toNat, 8)] = BitVec.ofNat 32 ((if r.kind = .write then 1 else 0) + 256 * r.beats.toNat) := by
  cases r.kind with
  | read =>
    rw [pack_eq _ (by simp [fieldsFit, kindCode])]
    simp [fieldSum, kindCode]
  | write =>
    rw [pack_eq _ (by simp [fieldsFit, kindCode])]
    simp [fieldSum, kindCode]

/-- Settles O15: the request's checks in their order. -/
theorem badRequestsAreRefused : Obligations.BadRequestsAreRefused := by
  unfold Obligations.BadRequestsAreRefused
  intro tick r s reason ready
  dsimp only
  intro bad
  have refused (p : PortReason) (fails : requestError r = some p) (code : reason = BitVec.ofNat 8 p.code) :
      exec (.plainRequest tick r) s = .next (refuseRequest (atTime s tick) r p) ∧ reason = BitVec.ofNat 8 p.code := by
    refine ⟨congrArg _ ((arrive_ready ready tick r).trans ?_), code⟩
    unfold takeRequest
    rw [fails]
  obtain ⟨p, result, code⟩ : ∃ p : PortReason, exec (.plainRequest tick r) s = .next (refuseRequest (atTime s tick) r p) ∧ reason = BitVec.ofNat 8 p.code := by
    rcases bad with ⟨code, odd⟩ | ⟨code, even, length⟩ | ⟨code, even, low, high, cross⟩
    · exact ⟨.misaligned, refused _ (if_pos odd) code⟩
    · refine ⟨.badLength, refused _ ?_ code⟩
      unfold requestError
      rw [if_neg (by omega), if_pos (by omega)]
    · refine ⟨.crossing, refused _ ?_ code⟩
      unfold requestError
      rw [if_neg (by omega), if_neg (by omega), if_pos cross]
  rw [result]
  refine congrArg _ ?_
  unfold refuseRequest
  rw [finishRequest_ready]
  · rw [code, ← portErrorWord_eq]
    rfl
  · exact ready

theorem noteDiscards_none (s : State) (r : Request) (whole : ∀ c ∈ reqCells r, (s.classOf c.1).isShielded = false) :
    noteDiscards s r (reqCells r) = s ∧ ((reqCells r).filter fun c => !cellShielded s c) = reqCells r := by
  have unshielded (c : Host.Cell) (mem : c ∈ reqCells r) : ¬ cellShielded s c = true := Bool.eq_false_iff.mp (whole c mem)
  constructor
  · unfold noteDiscards
    rw [List.find?_eq_none.mpr unshielded]
  · exact List.filter_eq_self.mpr fun c mem => by rw [Bool.eq_false_iff.mpr (unshielded c mem)]; rfl

/-- Settles O16: a write of nothing, a read, and a write of bytes of one class. -/
theorem plainRequestsGoToTheirOwnAddresses : Obligations.PlainRequestsGoToTheirOwnAddresses := by
  unfold Obligations.PlainRequestsGoToTheirOwnAddresses
  intro tick r s ready valid
  have ready' : PortReady (atTime s tick) := ready
  have taken : exec (.plainRequest tick r) s = .next (takeRequest (atTime s tick) r) := congrArg _ (arrive_ready ready tick r)
  refine ⟨fun kind empty => ?_, fun kind own => ?_, fun kind some own => ?_⟩
  · rw [taken, takeRequest_write valid kind]
    have finished : takeWrite (atTime s tick) r = finishRequest (atTime s tick) .done := by
      unfold takeWrite
      rw [empty]
      rfl
    rw [finished, finishRequest_ready ready']
    rfl
  · rw [taken, takeRequest_read valid kind]
    have picks : (reqAddrs r).map (pickOf (atTime s tick)) = (reqAddrs r).map fun a => ⟨true, a⟩ := by
      refine List.map_congr_left fun a mem => if_neg ?_
      rintro ⟨canvas, inside⟩
      exact absurd (own a mem canvas) (Nat.not_le_of_lt inside)
    unfold takeRead
    rw [picks]
    rfl
  · have whole (c : Host.Cell) (mem : c ∈ reqCells r) : ((atTime s tick).classOf c.1).isShielded = false := by
      rcases own with plain | tail
      · rw [show (atTime s tick).classOf c.1 = .plain from plain c mem]
        rfl
      · rw [show (atTime s tick).classOf c.1 = .canvas from (tail c mem).1]
        rfl
    have served : takeRequest (atTime s tick) r = serving (atTime s tick) (reqCells r) := by
      obtain ⟨noted, left⟩ := noteDiscards_none (atTime s tick) r whole
      rw [takeRequest_write valid kind, takeWrite_eq _ some, noted, left]
      exact takeRemaining_own (atTime s tick) (reqCells r) some own
    refine ⟨taken.trans (congrArg _ served), fun offset beats lanes request => ?_⟩
    have arrives : exec (.canvasWrite tick offset beats lanes) s
        = .next (arrive s tick (writeRequest (s.cc.canvasBase + offset.toNat) beats lanes)) := rfl
    rw [arrives, ← request, arrive_ready ready, served]

/-- Settles O17: the bytes lost are noted, and those that remain are of one class. -/
theorem shieldedBytesAreDiscarded : Obligations.ShieldedBytesAreDiscarded := by
  unfold Obligations.ShieldedBytesAreDiscarded
  intro tick first r a s ready kind valid own found lost left s1 t
  have shield : cellShielded (atTime s tick) = fun c => (s.classOf c.1).isShielded := rfl
  have noted : noteDiscards (atTime s tick) r (reqCells r) = s1 := by
    refine noteDiscards_eq ⟨fun whole => ?_, fun b second found' lost' => ?_⟩
    · obtain ⟨c, mem, rfl⟩ := List.mem_map.mp (List.mem_of_find?_eq_some found)
      have shielded : (s.classOf c.1).isShielded = true := by rw [lost]; rfl
      exact absurd (shielded.symm.trans (whole c mem)) (by decide)
    · have same : a = b := Option.some.inj (found.symm.trans found')
      subst same
      have range : AddrClass.shielded first = .shielded second := lost.symm.trans lost'
      cases range
      rfl
  have some : reqCells r ≠ [] := by
    intro empty
    rw [empty] at found
    exact absurd found (by simp)
  have taken : takeRequest (atTime s tick) r = t := by
    rw [takeRequest_write valid kind, takeWrite_eq _ some, noted, shield]
    have same : ((reqCells r).filter fun c => !(s.classOf c.1).isShielded) = left :=
      List.filter_congr fun c _ => by cases (s.classOf c.1).isShielded <;> rfl
    rw [same]
    by_cases empty : left = []
    · have done : t = { s1 with port := { s1.port with responses := s1.port.responses ++ [.done] } } := if_pos empty
      rw [done, empty]
      exact finishRequest_ready (s := s1) ready .done
    · have served : t = serving s1 left := if_neg empty
      have open' (c : Host.Cell) (mem : c ∈ left) : c ∈ reqCells r ∧ (s.classOf c.1).isShielded = false := by
        obtain ⟨mem, clear⟩ := List.mem_filter.mp mem
        exact ⟨mem, decide_eq_true_iff.mp clear⟩
      rw [served]
      refine takeRemaining_own s1 left empty (own.imp (fun plain c mem => ?_) fun tail c mem => ?_)
      · obtain ⟨mem, clear⟩ := open' c mem
        exact (plain c mem).resolve_right fun h => absurd (h.symm.trans clear) (by decide)
      · obtain ⟨mem, clear⟩ := open' c mem
        exact (tail c mem).resolve_right fun h => absurd (h.symm.trans clear) (by decide)
  refine ⟨fun g offset beats lanes request => ?_, ?_, fun offset beats lanes request => ?_⟩
  · have arrives : exec (.shieldedWrite tick g offset beats lanes) s
        = .next (arrive s tick (writeRequest (s.shieldBase g + offset.toNat) beats lanes)) := rfl
    rw [arrives, ← request, arrive_ready ready, taken]
  · exact congrArg _ ((arrive_ready ready tick r).trans taken)
  · have arrives : exec (.canvasWrite tick offset beats lanes) s
        = .next (arrive s tick (writeRequest (s.cc.canvasBase + offset.toNat) beats lanes)) := rfl
    rw [arrives, ← request, arrive_ready ready, taken]

end Sys2Proof.Machine
end

section
/-! Canvas writes and canvas reads (O18, O21). -/

namespace Sys2Proof.Machine

/-! ### The bytes of a request at a canvas offset (R32, R38, R43) -/

theorem mem_reqCells {r : Request} {c : Host.Cell} (h : c ∈ reqCells r) : ∃ j, j < 16 * r.beats.toNat ∧ c.1 = r.addr.toNat + j := by
  unfold reqCells at h
  obtain ⟨j, mem, e⟩ := List.mem_filterMap.mp h
  refine ⟨j, List.mem_range.mp mem, ?_⟩
  obtain ⟨b, -, rfl⟩ := Option.map_eq_some_iff.mp e
  rfl

theorem mem_reqAddrs {r : Request} {a : Nat} (h : a ∈ reqAddrs r) : ∃ j, j < 16 * r.beats.toNat ∧ a = r.addr.toNat + j := by
  unfold reqAddrs at h
  obtain ⟨j, mem, rfl⟩ := List.mem_map.mp h
  exact ⟨j, List.mem_range.mp mem, rfl⟩

/-- A valid request at a canvas offset stays in the offset's segment, and in the canvas. -/
theorem canvas_request {c : Shadow} (law : SettingsLaw c) {r : Request} (valid : requestError r = none) {offset : Nat}
    (addr : r.addr.toNat = c.canvasBase + offset) (inside : offset < c.width * 4 * c.height) {j : Nat} (h : j < 16 * r.beats.toNat) :
    (offset + j) / 64 = offset / 64 ∧ offset + j < canvasBytes c.width c.height := by
  obtain ⟨-, -, -, block⟩ := requestError_none valid
  obtain ⟨⟨width, -, -⟩, -, base, -⟩ := law
  have rows : c.width * 4 * c.height = 64 * (c.width / 16 * c.height) := by
    have columns : c.width = 16 * (c.width / 16) := by omega
    calc c.width * 4 * c.height = 16 * (c.width / 16) * 4 * c.height := by rw [← columns]
      _ = 64 * (c.width / 16 * c.height) := by rw [Nat.mul_right_comm 16, Nat.mul_assoc]
  unfold canvasBytes
  omega

/-! ### Canvas writes (R6, R43, R44) -/

theorem noteDiscards_only (s : State) (r : Request) (cells : List Host.Cell) :
    noteDiscards s r cells = { s with wd := (noteDiscards s r cells).wd, rw := (noteDiscards s r cells).rw } := by
  unfold noteDiscards
  obtain ⟨classOf, h⟩ : ∃ f, f = s.classOf := ⟨_, rfl⟩
  rw [← h]
  split
  · rfl
  · split
    · unfold noteDiscard
      dsimp only
      split <;> rfl
    · rfl
    · rfl
    · rfl

theorem lanesAt_eq (cells : List Host.Cell) (base seg : Nat) :
    lanesAt cells (base + seg * 64) 64 = (List.range 64).map fun i => cellAt cells (base + 64 * seg + i) := by
  unfold lanesAt
  rw [Nat.mul_comm]

/-- Bytes of the canvas itself, all of one segment, are offered to the Bank Manager. -/
theorem takeRemaining_segment (s : State) (cells : List Host.Cell) (seg : Nat) (some : cells ≠ [])
    (canvas : ∀ c ∈ cells, s.classOf c.1 = .canvas)
    (inside : ∀ c ∈ cells, (c.1 - s.cc.canvasBase) / 64 = seg ∧ c.1 - s.cc.canvasBase < canvasBytes s.cc.width s.cc.height) :
    takeRemaining s cells = takeCanvasWrite s seg ((List.range 64).map fun i => cellAt cells (s.cc.canvasBase + 64 * seg + i)) := by
  obtain ⟨c, mem, -, offered, -⟩ := takeRemaining_class s cells some .canvas canvas
  obtain ⟨same, low⟩ := inside c mem
  rw [offered rfl]
  unfold takeCanvasClass
  dsimp only
  rw [if_neg (Nat.not_le_of_lt low), same, lanesAt_eq]

section
variable {s : State} {k : Fin 4} {seg : Nat} {lanes : List Lane}

theorem takeCanvasWrite_filling (filling : bankIn s .filling = some k) : takeCanvasWrite s seg lanes = steerWrite s k seg lanes := by
  unfold takeCanvasWrite
  rw [filling]

theorem takeCanvasWrite_sealing (filling : bankIn s .filling = none) (sealing : bankIn s .sealing = some k) :
    takeCanvasWrite s seg lanes = { s with port := { s.port with phase := .sealStall seg lanes, claim := false } } := by
  unfold takeCanvasWrite
  rw [filling, sealing]

theorem takeCanvasWrite_opens (filling : bankIn s .filling = none) (sealing : bankIn s .sealing = none) (free : bankIn s .free = some k) :
    takeCanvasWrite s seg lanes = steerWrite (openBank s k) k seg lanes := by
  unfold takeCanvasWrite
  rw [filling, sealing, free]

end

theorem bankIn_spec (s : State) (st : BankState) :
    (∀ k, bankIn s st = some k → (s.banks[k]).state = st ∧ ∀ j : Fin 4, j < k → (s.banks[j]).state ≠ st)
    ∧ (bankIn s st = none → ∀ j : Fin 4, (s.banks[j]).state ≠ st) := by
  obtain ⟨found, absent⟩ := findBank_spec s fun b => b.state == st
  refine ⟨fun k h => ?_, fun h j => ?_⟩
  · obtain ⟨own, before⟩ := found k h
    exact ⟨beq_iff_eq.mp own, fun j lt => beq_eq_false_iff_ne.mp (before j lt)⟩
  · exact beq_eq_false_iff_ne.mp (absent h j)

/-- Settles O18: the lowest-numbered bank of a state, and a canvas write by the banks' states. -/
theorem canvasWritesGoToTheFillingBank : Obligations.CanvasWritesGoToTheFillingBank := by
  unfold Obligations.CanvasWritesGoToTheFillingBank
  refine ⟨bankIn_spec, ?_⟩
  intro tick offset beats lanes s ready law space inside r valid some classes s1 noted left seg held
  have addr : r.addr.toNat = s.cc.canvasBase + offset.toNat := by
    show (BitVec.ofNat 32 (s.cc.canvasBase + offset.toNat)).toNat = _
    rw [BitVec.toNat_ofNat]
    exact Nat.mod_eq_of_lt space
  have shield : cellShielded (atTime s tick) = fun c => (s.classOf c.1).isShielded := rfl
  have same : ((reqCells r).filter fun c => !(s.classOf c.1).isShielded) = left := by
    refine List.filter_congr fun c mem => ?_
    rcases classes c mem with canvas | shielded
    · rw [canvas]
      rfl
    · rw [shielded]
      refine (decide_eq_false fun canvas => ?_).symm
      rw [canvas] at shielded
      exact absurd shielded (by decide)
  have arrives : exec (.canvasWrite tick offset beats lanes) s = .next (takeRemaining s1 left) := by
    refine (congrArg _ (arrive_ready ready tick r)).trans ?_
    rw [takeRequest_write valid rfl, takeWrite_eq _ some, noteDiscards_eq noted, shield, same]
  have only := noteDiscards_only (atTime s tick) r (reqCells r)
  rw [noteDiscards_eq noted] at only
  obtain ⟨wd, rw', rfl⟩ : ∃ wd rw', s1 = { atTime s tick with wd := wd, rw := rw' } := ⟨_, _, only⟩
  rw [arrives]
  have offered (filled : left ≠ []) : takeRemaining { atTime s tick with wd := wd, rw := rw' } left
      = takeCanvasWrite { atTime s tick with wd := wd, rw := rw' } seg held := by
    have mine (c : Host.Cell) (mem : c ∈ left) : c ∈ reqCells r ∧ s.classOf c.1 = .canvas := by
      obtain ⟨mem, canvas⟩ := List.mem_filter.mp mem
      exact ⟨mem, decide_eq_true_iff.mp canvas⟩
    refine takeRemaining_segment { atTime s tick with wd := wd, rw := rw' } left seg filled (fun c mem => (mine c mem).2) fun c mem => ?_
    obtain ⟨j, low, at'⟩ := mem_reqCells (mine c mem).1
    have offset' : c.1 - s.cc.canvasBase = offset.toNat + j := by omega
    show (c.1 - s.cc.canvasBase) / 64 = offset.toNat / 64 ∧ c.1 - s.cc.canvasBase < _
    rw [offset']
    exact canvas_request law valid addr inside low
  refine ⟨fun empty => ?_, fun k filled filling => ?_, fun k filled filling sealing => ?_, fun k filled filling sealing free => ?_⟩
  · rw [empty]
    exact congrArg _ (finishRequest_ready (s := { atTime s tick with wd := wd, rw := rw' }) ready .done)
  · rw [offered filled]
    exact congrArg _ (takeCanvasWrite_filling filling)
  · rw [offered filled]
    refine congrArg _ ((takeCanvasWrite_sealing (s := { atTime s tick with wd := wd, rw := rw' }) filling sealing).trans ?_)
    rw [← show s.port.claim = false from ready.2.1]
    rfl
  · rw [offered filled]
    exact congrArg _ (takeCanvasWrite_opens filling sealing free)

/-! ### Canvas reads (R40, R46, R47) -/

section
variable {s : State} {k : Fin 4} {seg : Nat}

theorem readBank_marked (target : bankTarget s = some k) (marked : isMarked s k seg = true) : readBank s seg = some k := by
  unfold readBank
  rw [target]
  exact if_pos marked

theorem readBank_source {j : Fin 4} (target : bankTarget s = some k) (clear : isMarked s k seg = false) (src : (s.banks[k]).src = some j)
    (running : (s.banks[k]).progress < s.cc.segments) (ahead : (s.banks[k]).progress ≤ seg) : readBank s seg = some j := by
  have copies : copyRunning s k = true := by
    unfold copyRunning
    rw [src]
    exact decide_eq_true running
  unfold readBank
  rw [target]
  dsimp only
  rw [clear, src, copies, decide_eq_true ahead]
  rfl

theorem readBank_passed (target : bankTarget s = some k) (clear : isMarked s k seg = false)
    (passed : (s.banks[k]).src = none ∨ seg < (s.banks[k]).progress) : readBank s seg = some k := by
  unfold readBank
  rw [target]
  dsimp only
  rw [clear]
  obtain ⟨src, h⟩ : ∃ src, (s.banks[k]).src = src := ⟨_, rfl⟩
  rw [h] at passed ⊢
  cases src with
  | none => rfl
  | some j =>
    have behind := passed.resolve_left (by simp)
    dsimp only
    rw [decide_eq_false (Nat.not_le_of_lt behind), Bool.and_false]
    rfl

theorem readBank_committed (target : bankTarget s = none) : readBank s seg = newestCommitted s := by
  unfold readBank
  rw [target]

end

theorem newestCommitted_eq (s : State) : newestCommitted s = ((bankIn s .ready).or (bankSending s)).or (bankIn s .shown) := by
  unfold newestCommitted
  cases bankIn s .ready with
  | some k => rfl
  | none => cases bankSending s <;> rfl

theorem bankTarget_eq (s : State) : bankTarget s = (bankIn s .filling).or (bankIn s .sealing) := by
  unfold bankTarget
  cases bankIn s .filling <;> rfl

/-- Settles O21: the reads by address, and the bank that serves a segment. -/
theorem canvasReadsAreRedirected : Obligations.CanvasReadsAreRedirected := by
  unfold Obligations.CanvasReadsAreRedirected
  refine ⟨?_, fun tick r s ready valid kind => ?_, bankTarget_eq,
    fun s seg k target => ⟨readBank_marked target, fun j clear src running ahead => readBank_source target clear src running ahead,
      readBank_passed target⟩, fun s seg target => ?_⟩
  · intro tick offset beats s ready law space inside r valid canvas s1
    have addr : r.addr.toNat = s.cc.canvasBase + offset.toNat := by
      show (BitVec.ofNat 32 (s.cc.canvasBase + offset.toNat)).toNat = _
      rw [BitVec.toNat_ofNat]
      exact Nat.mod_eq_of_lt space
    have picks : (reqAddrs r).map (pickOf s1) = (reqAddrs r).map fun a =>
        ⟨false, match readBank s (offset.toNat / 64) with
          | some k => s.cc.bankAddr k + (a - s.cc.canvasBase)
          | none => a⟩ := by
      refine List.map_congr_left fun a mem => ?_
      obtain ⟨j, low, rfl⟩ := mem_reqAddrs mem
      obtain ⟨same, below⟩ := canvas_request law valid addr inside low
      have offset' : r.addr.toNat + j - s.cc.canvasBase = offset.toNat + j := by omega
      have pick : pickOf s1 (r.addr.toNat + j) = ⟨false, canvasReadAddr s1 (r.addr.toNat + j)⟩ :=
        if_pos ⟨canvas _ mem, (congrArg (· < canvasBytes s.cc.width s.cc.height) offset').mpr below⟩
      have served : readBank s1 ((r.addr.toNat + j - s1.cc.canvasBase) / 64) = readBank s (offset.toNat / 64) := by
        show readBank s1 ((r.addr.toNat + j - s.cc.canvasBase) / 64) = _
        rw [offset', same]
        rfl
      rw [pick]
      unfold canvasReadAddr
      rw [served]
      rfl
    refine (congrArg _ (arrive_ready ready tick r)).trans ?_
    rw [takeRequest_read valid rfl]
    unfold takeRead
    rw [picks] <;> rfl
  · intro s1
    refine (congrArg _ (arrive_ready ready tick r)).trans ?_
    rw [takeRequest_read valid kind]
    unfold takeRead
    have picks : (reqAddrs r).map (pickOf s1) = (reqAddrs r).map fun a =>
        if s.classOf a = .canvas ∧ a - s.cc.canvasBase < s.cc.width * 4 * s.cc.height then
          ⟨false, match readBank s ((a - s.cc.canvasBase) / 64) with
            | some k => s.cc.bankAddr k + (a - s.cc.canvasBase)
            | none => a⟩
        else ⟨true, a⟩ := rfl
    rw [picks] <;> rfl
  · rw [readBank_committed target, newestCommitted_eq]
    refine ⟨fun k ready => ?_, fun k ready sending => ?_, fun k ready sending shown => ?_, fun ready sending shown => ?_⟩
    · rw [ready]
      rfl
    · rw [ready, sending]
      rfl
    · rw [ready, sending, shown]
      rfl
    · rw [ready, sending, shown]
      rfl

end Sys2Proof.Machine
end

section
/-! Opening a bank, and the three ways of a render write (O19, O20). -/

namespace Sys2Proof.Machine

/-! ### Opening (R4, R7, R8, R17) -/

theorem skipMarked_nil (n fuel p : Nat) : skipMarked [] n fuel p = p := by
  cases fuel with
  | zero => rfl
  | succ fuel => exact if_neg (by simp)

/-- A bank with a canvas to fill opens with its map lent; with a source the engine takes up its first step at segment 0. -/
theorem openBank_eq (s : State) (k : Fin 4) (canvas : 0 < s.cc.segments) (free : ¬ lentTo s k) :
    openBank s k = { lendMap (setBank s k (openRecord s)) k with copy := if (openSource s).isSome then .wantRead else s.copy } := by
  have record : (lendMap (setBank s k (openRecord s)) k).banks[k] = openRecord s := by
    rw [lendMap_banks]
    exact setBank_same ..
  have clear : marksOf (lendMap (setBank s k (openRecord s)) k) k = [] := marksOf_lendMap_self _ k free
  have copy : (lendMap (setBank s k (openRecord s)) k).copy = s.copy := by rw [lendMap_only]; rfl
  have settings : (lendMap (setBank s k (openRecord s)) k).cc = s.cc := by rw [lendMap_only]; rfl
  unfold openBank
  dsimp only
  generalize lendMap (setBank s k (openRecord s)) k = u at record clear copy settings
  by_cases source : (openSource s).isSome = true
  · have start : (openRecord s).progress = 0 := if_pos source
    rw [if_pos source, if_pos source]
    unfold copyAdvance
    rw [clear, skipMarked_nil, settings, record, start, if_pos canvas]
    have same : setBank u k { openRecord s with progress := 0 } = u := by
      have back : ({ openRecord s with progress := 0 } : Bank) = u.banks[k] := by rw [record, ← start]
      unfold setBank
      rw [back, put_self]
    rw [same, settings]
  · rw [if_neg source, if_neg source, ← copy]

/-- Settles O20: the newest committed bank, and the bank that opens. -/
theorem openingABankStartsAFill : Obligations.OpeningABankStartsAFill := by
  unfold Obligations.OpeningABankStartsAFill
  have sends (b : Bank) : (b.state == .sending || b.state == .resending) = b.state.sends := by cases b.state <;> rfl
  refine ⟨fun s => ⟨fun k h => ?_, fun h k => ?_, newestCommitted_eq s⟩, fun s k canvas free => ?_⟩
  · rw [← sends]
    exact ((findBank_spec s _).1 k h).1
  · rw [← sends]
    exact (findBank_spec s _).2 h k
  · intro t
    have opened : t = _ := openBank_eq s k canvas free
    have record : t.banks[k] = openRecord s := by
      rw [opened]
      show (lendMap (setBank s k (openRecord s)) k).banks[k] = _
      rw [lendMap_banks]
      exact setBank_same ..
    have marks (q : Nat) : isMarked t k q = false := by
      have clear : marksOf t k = [] := by
        rw [opened]
        exact marksOf_lendMap_self _ k free
      unfold isMarked
      rw [clear]
      rfl
    have copy : t.copy = if (openSource s).isSome then .wantRead else s.copy := by rw [opened]
    have next : t.nextMap = !s.nextMap := by rw [opened, lendMap_only]; rfl
    clear_value t
    refine ⟨by rw [record]; rfl, by rw [record]; rfl, by rw [record]; rfl, fun z => ?_, marks, next, fun first => ?_, fun second => ?_,
      fun j enabled newest => ?_, fun none => ?_, fun j other => ?_, ?_⟩
    · rw [record]
      have geom : (stagedZones s.cc)[z] = zoneOf s.cc.zones[z] := getElem_tabulate_fin ..
      refine ⟨geom, (getElem_tabulate_fin ..).trans ?_⟩
      rw [geom]
      rfl
    · rw [opened]
      unfold lendMap
      rw [setBank_nextMap, first]
      exact ⟨rfl, rfl⟩
    · rw [opened]
      unfold lendMap
      rw [setBank_nextMap, second]
      exact ⟨rfl, rfl⟩
    · have source : openSource s = some j := by
        unfold openSource
        rw [enabled, newest]
        rfl
      have start : (openRecord s).progress = 0 := if_pos (by rw [source]; rfl)
      rw [record, copy, start]
      exact ⟨source, rfl, by rw [source]; rfl⟩
    · have source : openSource s = Option.none := by
        unfold openSource
        rcases none with off | none
        · rw [off]
          rfl
        · rw [none, ite_self]
      have done : (openRecord s).progress = s.cc.segments := if_neg (by rw [source]; decide)
      rw [record, copy, done]
      exact ⟨source, rfl, by rw [source]; rfl⟩
    · rw [opened]
      show (lendMap (setBank s k (openRecord s)) k).banks[j] = _
      rw [lendMap_banks]
      exact setBank_ne s _ other
    · rw [opened, lendMap_only]
      rfl

/-! ### The three ways (R9 to R11, R65) -/

section
variable {s : State} {k : Fin 4} {seg : Nat} {lanes : List Lane}

theorem steerWrite_rewrite (marked : isMarked s k seg = true) :
    steerWrite s k seg lanes = { s with port := { s.port with phase := .preRead k k seg lanes true, claim := true } } := if_pos marked

theorem markWritten_clear (clear : isMarked s k seg = false) :
    markWritten s k seg = setBank (setMark s k seg) k { s.banks[k] with written := (s.banks[k]).written + 1 } := by
  rcases markWritten_spec s k seg with ⟨marked, -⟩ | ⟨-, h⟩
  · exact absurd (marked.symm.trans clear) (by decide)
  · exact h

theorem steerWrite_full (clear : isMarked s k seg = false) (full : ∀ l ∈ lanes, l.isSome = true) :
    steerWrite s k seg lanes = { setBank (setMark s k seg) k
        (addSegment s.cc.columns { s.banks[k] with written := (s.banks[k]).written + 1 } seg (lanes.map fun l => l.getD 0)) with
      port := { s.port with phase := .writeAccess (cellsFrom (s.cc.segmentAddr k seg) (lanes.map fun l => l.getD 0)), claim := true } } := by
  unfold steerWrite
  rw [clear, if_neg (by decide), if_pos (List.all_eq_true.mpr full), markWritten_clear clear]
  dsimp only
  rw [setBank_same, setBank_setBank, setBank_port, setMark_only]

/-- The bank that a first write with holes reads the segment's old content from. -/
def partialSource (s : State) (k : Fin 4) (seg : Nat) : Fin 4 :=
  match (s.banks[k]).src with
  | none => k
  | some j => if copyRunning s k && (s.banks[k]).progress ≤ seg then j else k

theorem steerWrite_partial (clear : isMarked s k seg = false) (holes : ¬ ∀ l ∈ lanes, l.isSome = true) :
    steerWrite s k seg lanes = { setBank (setMark s k seg) k { s.banks[k] with written := (s.banks[k]).written + 1 } with
      port := { s.port with phase := .preRead k (partialSource s k seg) seg lanes false, claim := true } } := by
  unfold steerWrite
  rw [clear, if_neg (by decide), if_neg (fun h => holes (List.all_eq_true.mp h)), markWritten_clear clear]
  dsimp only
  rw [setBank_port, setMark_only]
  rfl

end

theorem partialSource_running {s : State} {k j : Fin 4} {seg : Nat} (src : (s.banks[k]).src = some j)
    (running : (s.banks[k]).progress < s.cc.segments) (ahead : (s.banks[k]).progress ≤ seg) : partialSource s k seg = j := by
  have copies : copyRunning s k = true := by
    unfold copyRunning
    rw [src]
    exact decide_eq_true running
  unfold partialSource
  rw [src, copies, decide_eq_true ahead]
  rfl

theorem partialSource_passed {s : State} {k : Fin 4} {seg : Nat} (passed : (s.banks[k]).src = none ∨ seg < (s.banks[k]).progress) :
    partialSource s k seg = k := by
  unfold partialSource
  obtain ⟨src, h⟩ : ∃ src, (s.banks[k]).src = src := ⟨_, rfl⟩
  rw [h] at passed ⊢
  cases src with
  | none => rfl
  | some j =>
    dsimp only
    rw [decide_eq_false (Nat.not_le_of_lt (passed.resolve_left (by simp))), Bool.and_false]
    rfl

/-- What a first write into a segment leaves but for the sums and the port's next access. -/
def RenderWritten (s t : State) (k : Fin 4) (seg : Nat) : Prop :=
  t.banks[k] = { s.banks[k] with written := (s.banks[k]).written + 1, acc := (t.banks[k]).acc }
  ∧ t.port = { s.port with phase := t.port.phase, claim := true }
  ∧ (∀ q, isMarked t k q = true ↔ isMarked s k q = true ∨ q = seg)
  ∧ (∀ j, j ≠ k → t.banks[j] = s.banks[j])
  ∧ t = { s with port := t.port, banks := t.banks, map0 := t.map0, map1 := t.map1 }

theorem renderWritten_clauses {s t : State} {k : Fin 4} {seg : Nat} {acc : Vector Acc 64} {phase : Phase} (lent : lentTo s k)
    (h : t = { setBank (setMark s k seg) k { s.banks[k] with written := (s.banks[k]).written + 1, acc := acc } with
      port := { s.port with phase := phase, claim := true } }) :
    RenderWritten s t k seg ∧ t.port.phase = phase ∧ (t.banks[k]).acc = acc := by
  have marks (q : Nat) := isMarked_setMark s k seg q lent
  have only := setMark_only s k seg
  generalize setMark s k seg = v at marks only h
  obtain ⟨m0, m1, rfl⟩ : ∃ m0 m1, v = { s with map0 := m0, map1 := m1 } := ⟨_, _, only⟩
  have record : t.banks[k] = { s.banks[k] with written := (s.banks[k]).written + 1, acc := acc } := by
    rw [h]
    exact setBank_same ..
  have others (j : Fin 4) (other : j ≠ k) : t.banks[j] = s.banks[j] := by
    rw [h]
    exact setBank_ne { s with map0 := m0, map1 := m1 } _ other
  have marked (q : Nat) : isMarked t k q = true ↔ isMarked s k q = true ∨ q = seg := by
    rw [h, or_comm]
    exact marks q
  refine ⟨⟨by rw [record], by rw [h], marked, others, by rw [h]; rfl⟩, by rw [h], by rw [record]⟩

/-- Settles O19, by the mark and by the lanes. -/
theorem renderWritesTakeOneOfThreeWays : Obligations.RenderWritesTakeOneOfThreeWays := by
  unfold Obligations.RenderWritesTakeOneOfThreeWays
  intro s k seg lanes _ lent t bytes
  refine ⟨steerWrite_rewrite, fun clear => ?_⟩
  by_cases full : ∀ l ∈ lanes, l.isSome = true
  · obtain ⟨frame, phase, acc⟩ := renderWritten_clauses (t := t) lent (steerWrite_full clear full)
    obtain ⟨own, port, marks, others, only⟩ := frame
    refine ⟨own, port, marks, others, only, fun _ => ⟨phase, fun z => ?_⟩, fun holes => absurd full holes⟩
    rw [acc]
    exact addSegment_acc ..
  · obtain ⟨frame, phase, acc⟩ := renderWritten_clauses (t := t) lent (steerWrite_partial clear full)
    obtain ⟨own, port, marks, others, only⟩ := frame
    refine ⟨own, port, marks, others, only, fun h => absurd h full, fun _ => ⟨acc, fun j src running ahead => ?_, fun passed => ?_⟩⟩
    · rw [phase, partialSource_running src running ahead]
    · rw [phase, partialSource_passed passed]

end Sys2Proof.Machine
end

section
/-! What a capture does to the shadows, and the words of the control window by their offsets (R184, R185). -/

namespace Sys2Proof.Machine

/-! ### A capture writes its own word's shadow alone -/

theorem resetWall_cc (s : State) : (resetWall s).cc = s.cc := by rw [resetWall_eq]

theorem ringRestart_cc (s : State) : (ringRestart s).cc = s.cc := by rw [ringRestart_only]

theorem supersedeReady_cc (s : State) : (supersedeReady s).cc = s.cc := by
  unfold supersedeReady
  split
  · rfl
  · rw [releaseBank_spec, setBank_cc, report_cc]

theorem closeFill_cc (s : State) (k : Fin 4) (n : BitVec 16) : (closeFill s k n).cc = s.cc := by
  unfold closeFill
  dsimp only
  split
  · rfl
  · split <;> rfl

theorem takeCommit_cc (s : State) (n : BitVec 16) : (takeCommit s n).cc = s.cc := by
  unfold takeCommit
  split
  · rfl
  · split
    · rfl
    · rw [closeFill_cc, supersedeReady_cc]

theorem lampEnabled_cc (s : State) (l : Fin 2) : (lampEnabled s l).cc = s.cc := by
  unfold lampEnabled
  split <;> rfl

theorem linkEnableEffect_cc (s0 s : State) (l : Fin 24) : (linkEnableEffect s0 s l).cc = s.cc := by
  unfold linkEnableEffect
  split
  · rw [linkEnabled, changeLink_cc, txEnabled_only]
  · split
    · rw [linkDisabled, changeLink_cc, txDisabled_only]
    · rfl

theorem enterInternal_cc (s : State) : (enterInternal s).cc = s.cc := by
  obtain ⟨_, _, _, only⟩ := enterInternal_eq s
  rw [only]
  rfl

/-- From `s` to `t` no shadow but that of word `w` changes. -/
def WritesWord (s t : State) (w : CWord) : Prop := t.cc = s.cc ∨ ∃ v, t.cc = s.cc.setWord w v

theorem WritesWord.taken (s : State) (w : CWord) (m v : Word) {t : State} (h : t.cc = (takeWord s w m v).cc) : WritesWord s t w :=
  .inr ⟨v, h.trans (takeWord_cc ..)⟩

theorem captureEnables_cc (s : State) (m : Word) : WritesWord s (captureEnables s m) (.setting 0) := by
  unfold captureEnables
  dsimp only
  split
  · split
    · exact .inr ⟨_, rfl⟩
    · exact .inr ⟨_, rfl⟩
  · split
    · exact .inr ⟨_, resetWall_cc _⟩
    · exact .inr ⟨_, rfl⟩

theorem captureLocked_cc (s : State) (w : CWord) (m v : Word) : WritesWord s (captureLocked s w m v) w := by
  unfold captureLocked
  split
  · exact .inl rfl
  · split
    · exact .inl rfl
    · exact .taken s w m v rfl

theorem captureRing_cc (s : State) (w : CWord) (m v : Word) : WritesWord s (captureRing s w m v) w := by
  unfold captureRing
  split
  · exact .inl rfl
  · exact .taken s w m v (ringRestart_cc _)

theorem captureMode_cc (s : State) (m : Word) : WritesWord s (captureMode s m) (.setting 9) := by
  unfold captureMode
  dsimp only
  split
  · exact .taken s _ m _ (enterInternal_cc _)
  · split
    · exact .taken s _ m _ rfl
    · exact .taken s _ m _ rfl

theorem capturePeriod_cc (s : State) (m : Word) : WritesWord s (capturePeriod s m) (.setting 10) := by
  unfold capturePeriod
  dsimp only
  split
  · exact .taken s _ m _ rfl
  · split
    · exact .taken s _ m _ rfl
    · exact .taken s _ m _ rfl

theorem captureTolerance_cc (s : State) (m : Word) : WritesWord s (captureTolerance s m) (.setting 11) := by
  unfold captureTolerance
  dsimp only
  split
  · exact .taken s _ m _ rfl
  · split <;> exact .taken s _ m _ rfl

theorem captureLamp_cc (s : State) (w : CWord) (l : Fin 2) (m : Word) : WritesWord s (captureLamp s w l m) w := by
  unfold captureLamp
  dsimp only
  split
  · exact .taken s w m _ (lampEnabled_cc ..)
  · split <;> exact .taken s w m _ rfl

theorem captureSetting_cc (s : State) (i : Fin 20) (m : Word) : ∃ j, WritesWord s (captureSetting s i m) (.setting j) := by
  have taken (i : Fin 20) (v : Word) : ∃ j, WritesWord s (takeWord s (.setting i) m v) (.setting j) := ⟨i, .taken s _ m v rfl⟩
  unfold captureSetting
  split
  exacts [⟨0, captureEnables_cc s m⟩, ⟨1, captureLocked_cc s _ m _⟩, ⟨2, captureLocked_cc s _ m _⟩, ⟨3, captureLocked_cc s _ m _⟩,
    ⟨4, captureLocked_cc s _ m _⟩, taken 5 _, ⟨6, captureRing_cc s _ m _⟩, ⟨7, captureRing_cc s _ m _⟩, taken 8 _, ⟨9, captureMode_cc s m⟩,
    ⟨10, capturePeriod_cc s m⟩, ⟨11, captureTolerance_cc s m⟩, taken 12 _, taken 13 _, taken 14 _, taken 15 _, taken 16 _,
    ⟨17, captureLamp_cc s _ 0 m⟩, ⟨18, captureLamp_cc s _ 1 m⟩, taken 19 _]

theorem captureCommand_cc (s : State) (i : Fin 7) (m : Word) : WritesWord s (captureCommand s i m) (.command i) := by
  match i with
  | 0 => exact .inr ⟨m, takeCommit_cc ..⟩
  | 1 => exact .inr ⟨m, resetWall_cc _⟩
  | 2 | 3 | 4 => exact .inr ⟨m, rfl⟩
  | 5 =>
    show WritesWord s (captureSelector s m) _
    unfold captureSelector
    split
    · exact .inl rfl
    · exact .inr ⟨m, rfl⟩
  | 6 =>
    show WritesWord s (captureConsumer s m) _
    unfold captureConsumer
    dsimp only
    split
    · exact .inr ⟨m, rfl⟩
    · exact .inl rfl

theorem captureTile_cc (s : State) (l : Fin 24) (i : Fin 32) (m : Word) : WritesWord s (captureTile s l i m) (.tile l i) := by
  unfold captureTile
  split
  · exact .taken s _ m _ (by rw [raiseResend_cc, linkEnableEffect_cc, noteRate_cc])
  · split
    · exact .taken s _ m _ rfl
    · split <;> exact .taken s _ m _ rfl

theorem captureLook_cc (s : State) (i : Fin 2) (m : Word) : WritesWord s (captureLook s i m) (.look i) := by
  unfold captureLook
  dsimp only
  split
  · split <;> exact .inr ⟨m, rfl⟩
  · exact .inr ⟨m, rfl⟩

/-- A capture writes one word's shadow at most, and the edit selector's only as its own (R184). -/
theorem captureMerged_cc (s : State) (w : CWord) (m : Word) (other : w ≠ .command 5) :
    ∃ u, u ≠ .command 5 ∧ WritesWord s (captureMerged s w m) u := by
  cases w with
  | setting i =>
    obtain ⟨j, writes⟩ := captureSetting_cc s i m
    exact ⟨.setting j, by simp, writes⟩
  | command i => exact ⟨_, other, captureCommand_cc s i m⟩
  | look i => exact ⟨_, other, captureLook_cc s i m⟩
  | zone z i => exact ⟨_, other, .taken s _ m _ rfl⟩
  | fixture f i => exact ⟨_, other, .taken s _ m _ rfl⟩
  | tile l i => exact ⟨_, other, captureTile_cc s l i m⟩

theorem selected_setWord (c : Shadow) (w : CWord) (v : Word) (other : w ≠ .command 5) : (c.setWord w v).selected = c.selected := by
  have same : (c.setWord w v).command[5] = c.command[5] := by
    cases w with
    | command i => exact put_ne c.command i (5 : Fin 7) v fun e => other (by rw [e])
    | look i => unfold Shadow.setWord Shadow.setLook; dsimp only; split <;> rfl
    | setting i | zone z i | fixture f i | tile l i => rfl
  unfold Shadow.selected
  rw [same]

/-- The look that the edit selector names changes by the selector's own word alone (R145). -/
theorem captureMerged_selected (s : State) (w : CWord) (m : Word) (other : w ≠ .command 5) : (captureMerged s w m).cc.selected = s.cc.selected := by
  obtain ⟨u, other', same | ⟨v, set⟩⟩ := captureMerged_cc s w m other
  · rw [same]
  · rw [set, selected_setWord _ _ _ other']

/-! ### The words by their offsets (R184) -/

theorem wordAt_offset (w : CWord) : wordAt w.offset = some w := by
  unfold wordAt
  cases w with
  | setting i =>
    rw [dif_pos (by dsimp only [CWord.offset]; omega)]
    refine congrArg (fun i => some (CWord.setting i)) (Fin.ext ?_)
    show 4 * i.val / 4 = i.val
    omega
  | command i =>
    have h := i.isLt
    rw [dif_neg (by dsimp only [CWord.offset]; omega), dif_pos (by dsimp only [CWord.offset]; omega)]
    refine congrArg (fun i => some (CWord.command i)) (Fin.ext ?_)
    show (0x100 + 4 * i.val - 0x100) / 4 = i.val
    omega
  | look i =>
    have h := i.isLt
    rw [dif_neg (by dsimp only [CWord.offset]; omega), dif_neg (by dsimp only [CWord.offset]; omega), dif_pos (by dsimp only [CWord.offset]; omega)]
    refine congrArg (fun i => some (CWord.look i)) (Fin.ext ?_)
    show (0x140 + 4 * i.val - 0x140) / 4 = i.val
    omega
  | zone z i =>
    have h := i.isLt
    rw [dif_neg (by dsimp only [CWord.offset]; omega), dif_neg (by dsimp only [CWord.offset]; omega), dif_neg (by dsimp only [CWord.offset]; omega),
      dif_pos (by dsimp only [CWord.offset]; omega)]
    have entry : (0x400 + 16 * z.val + 4 * i.val - 0x400) / 16 = z.val := by omega
    have word : (0x400 + 16 * z.val + 4 * i.val) % 16 / 4 = i.val := by omega
    exact congrArg₂ (fun z i => some (CWord.zone z i)) (Fin.ext entry) (Fin.ext word)
  | fixture f i =>
    have h := i.isLt
    rw [dif_neg (by dsimp only [CWord.offset]; omega), dif_neg (by dsimp only [CWord.offset]; omega), dif_neg (by dsimp only [CWord.offset]; omega),
      dif_neg (by dsimp only [CWord.offset]; omega), dif_pos (by dsimp only [CWord.offset]; omega)]
    have entry : (0x800 + 16 * f.val + 4 * i.val - 0x800) / 16 = f.val := by omega
    have word : (0x800 + 16 * f.val + 4 * i.val) % 16 / 4 = i.val := by omega
    exact congrArg₂ (fun f i => some (CWord.fixture f i)) (Fin.ext entry) (Fin.ext word)
  | tile l i =>
    have h := i.isLt
    rw [dif_neg (by dsimp only [CWord.offset]; omega), dif_neg (by dsimp only [CWord.offset]; omega), dif_neg (by dsimp only [CWord.offset]; omega),
      dif_neg (by dsimp only [CWord.offset]; omega), dif_neg (by dsimp only [CWord.offset]; omega), dif_pos (by dsimp only [CWord.offset]; omega)]
    have entry : (0x1000 + 128 * l.val + 4 * i.val - 0x1000) / 128 = l.val := by omega
    have word : (0x1000 + 128 * l.val + 4 * i.val) % 128 / 4 = i.val := by omega
    exact congrArg₂ (fun l i => some (CWord.tile l i)) (Fin.ext entry) (Fin.ext word)

theorem offset_wordAt {off : Nat} {w : CWord} (aligned : off % 4 = 0) (h : wordAt off = some w) : w.offset = off := by
  unfold wordAt at h
  split at h
  · cases h
    show 4 * (off / 4) = off
    omega
  · split at h
    · cases h
      show 0x100 + 4 * ((off - 0x100) / 4) = off
      omega
    · split at h
      · cases h
        show 0x140 + 4 * ((off - 0x140) / 4) = off
        omega
      · split at h
        · cases h
          show 0x400 + 16 * ((off - 0x400) / 16) + 4 * (off % 16 / 4) = off
          omega
        · split at h
          · cases h
            show 0x800 + 16 * ((off - 0x800) / 16) + 4 * (off % 16 / 4) = off
            omega
          · split at h
            · cases h
              show 0x1000 + 128 * ((off - 0x1000) / 128) + 4 * (off % 128 / 4) = off
              omega
            · exact absurd h (by simp)

/-- The offsets of words are multiples of 4 in the control window, outside the status block. -/
theorem CWord.offset_spec (w : CWord) : w.offset % 4 = 0 ∧ w.offset + 4 ≤ 0x1C00 ∧ (w.offset + 4 ≤ 0x200 ∨ 0x300 ≤ w.offset) := by
  cases w with
  | setting i | command i | look i => have h := i.isLt; dsimp only [CWord.offset]; omega
  | zone z i => have h := z.isLt; have h' := i.isLt; dsimp only [CWord.offset]; omega
  | fixture f i => have h := f.isLt; have h' := i.isLt; dsimp only [CWord.offset]; omega
  | tile l i => have h := l.isLt; have h' := i.isLt; dsimp only [CWord.offset]; omega

end Sys2Proof.Machine
end

section
/-! The captures of a control-window write, and the bytes it sends to memory (R184, R185). -/

namespace Sys2Proof.Machine

/-! ### Written bytes and lanes (R32) -/

theorem mem_reqCells_iff {r : Request} {a : Nat} {b : Byte} :
    (a, b) ∈ reqCells r ↔ ∃ j, j < 16 * r.beats.toNat ∧ r.lanes[j]? = some (some b) ∧ a = r.addr.toNat + j := by
  unfold reqCells
  rw [List.mem_filterMap]
  constructor
  · rintro ⟨j, mem, e⟩
    obtain ⟨b', lane, e⟩ := Option.map_eq_some_iff.mp e
    cases e
    refine ⟨j, List.mem_range.mp mem, ?_, rfl⟩
    cases h : r.lanes[j]? with
    | none => rw [h] at lane; exact absurd lane (by simp)
    | some x => rw [h] at lane; exact congrArg _ lane
  · rintro ⟨j, low, lane, rfl⟩
    exact ⟨j, List.mem_range.mpr low, by rw [lane]; rfl⟩

/-- The written bytes stand in rising address order. -/
theorem reqCells_rising (r : Request) : (reqCells r).Pairwise fun c d => c.1 < d.1 := by
  unfold reqCells
  refine List.Pairwise.filterMap _ ?_ (List.pairwise_lt_range (n := 16 * r.beats.toNat))
  intro i j less c hc d hd
  obtain ⟨_, -, rfl⟩ := Option.map_eq_some_iff.mp hc
  obtain ⟨_, -, rfl⟩ := Option.map_eq_some_iff.mp hd
  exact Nat.add_lt_add_left less _

/-- Among bytes at rising addresses an address is given the one that stands there. -/
theorem cellAt_eq_some_iff {cells : List Host.Cell} (rising : cells.Pairwise fun c d => c.1 < d.1) {a : Nat} {b : Byte} :
    cellAt cells a = some b ↔ (a, b) ∈ cells := by
  induction cells with
  | nil => simp [cellAt]
  | cons c cells ih =>
    obtain ⟨later, rest⟩ := List.pairwise_cons.mp rising
    obtain ⟨x, y⟩ := c
    unfold cellAt at ih ⊢
    by_cases same : x = a
    · subst same
      rw [List.find?_cons_of_pos (by simp)]
      simp only [Option.map_some, Option.some.injEq, List.mem_cons, Prod.mk.injEq, true_and]
      refine ⟨fun h => .inl h.symm, fun h => h.elim Eq.symm fun mem => ?_⟩
      exact absurd (later _ mem) (Nat.lt_irrefl _)
    · rw [List.find?_cons_of_neg (by simpa using same), ih rest, List.mem_cons]
      exact ⟨.inr, fun h => h.resolve_left fun e => same (congrArg Prod.fst e).symm⟩

/-- Lane `j` of a request is what its written bytes give that address. -/
theorem cellAt_reqCells (r : Request) (j : Nat) (h : j < 16 * r.beats.toNat) :
    cellAt (reqCells r) (r.addr.toNat + j) = (r.lanes[j]?).getD none := by
  refine Option.ext fun b => ?_
  rw [cellAt_eq_some_iff (reqCells_rising r), mem_reqCells_iff]
  constructor
  · rintro ⟨i, -, lane, e⟩
    obtain rfl : j = i := by omega
    rw [lane]
    rfl
  · intro lane
    refine ⟨j, h, ?_, rfl⟩
    cases h' : r.lanes[j]? with
    | none => rw [h'] at lane; exact absurd lane (by simp)
    | some x => rw [h'] at lane; exact congrArg _ lane

theorem anyLane_lanesAt (cells : List Host.Cell) (base n : Nat) :
    anyLane (lanesAt cells base n) = true ↔ ∃ c ∈ cells, base ≤ c.1 ∧ c.1 < base + n := by
  unfold anyLane lanesAt cellAt
  rw [List.any_map, List.any_eq_true]
  constructor
  · rintro ⟨i, mem, h⟩
    have isSome : (cells.find? fun c => c.1 == base + i).isSome = true := by simpa using h
    obtain ⟨c, found, at'⟩ := List.find?_isSome.mp isSome
    have low := List.mem_range.mp mem
    have addr : c.1 = base + i := by simpa using at'
    exact ⟨c, found, by omega, by omega⟩
  · rintro ⟨c, mem, low, high⟩
    refine ⟨c.1 - base, List.mem_range.mpr (by omega), ?_⟩
    have isSome : (cells.find? fun d => d.1 == base + (c.1 - base)).isSome = true :=
      List.find?_isSome.mpr ⟨c, mem, by simp; omega⟩
    simpa using isSome

/-! ### The captures of sixteen bytes (R185) -/

/-- No byte is written in the `n` addresses from control window offset `off`. -/
def Untouched (straps : BitVec 2) (cells : List Host.Cell) (off n : Nat) : Prop :=
  ∀ c ∈ cells, ¬ (controlBase straps + off ≤ c.1 ∧ c.1 < controlBase straps + off + n)

theorem Untouched.lanes {straps : BitVec 2} {cells : List Host.Cell} {off n : Nat} (h : Untouched straps cells off n) :
    anyLane (lanesAt cells (controlBase straps + off) n) = false := by
  refine Bool.eq_false_iff.mpr fun any => ?_
  obtain ⟨c, mem, range⟩ := (anyLane_lanesAt ..).mp any
  exact h c mem range

/-- The captures at some offsets are those of the words there. -/
theorem foldl_captureAt (cells : List Host.Cell) (straps : BitVec 2) (offs : List Nat) (s : State) (h : s.straps = straps) :
    offs.foldl (captureAt cells) s
      = captureWords s (offs.filterMap fun o => (wordAt o).map fun w => (w, lanesAt cells (controlBase straps + o) 4)) := by
  induction offs generalizing s with
  | nil => rfl
  | cons o offs ih =>
    rw [List.foldl_cons, ih _ ((captureAt_straps cells s o).trans h), List.filterMap_cons]
    unfold captureAt lanesOf
    cases wordAt o with
    | none => rfl
    | some w =>
      rw [h]
      rfl

theorem captureQuarter_words (cells : List Host.Cell) (s : State) (off : Nat) :
    [off, off + 4, off + 8, off + 12].foldl (captureAt cells) s = captureWords s (wordsIn s.straps cells off) :=
  foldl_captureAt cells s.straps _ s rfl

/-- The captures of sixteen bytes are those of R185, in no other way. -/
theorem captureQuarter_eq {s t : State} {cells : List Host.Cell} {off : Nat} (aligned : off % 16 = 0) (h : QuarterCaptured s t cells off) :
    captureQuarter cells s off = t := by
  obtain ⟨entry, plain⟩ := h
  unfold captureQuarter lanesOf
  rw [captureQuarter_words]
  have first {f : Fin 128} {i : Fin 4} (found : wordAt off = some (.fixture f i)) : wordAt off = some (.fixture f 0) := by
    have offset := offset_wordAt (by omega) found
    have zero : i = 0 := by
      refine Fin.ext ?_
      change 0x800 + 16 * f.val + 4 * i.val = off at offset
      show i.val = 0
      omega
    rw [found, zero]
  dsimp only
  split
  · next f i found =>
    cases any : anyLane (lanesAt cells (controlBase s.straps + off) 16) with
    | true => exact (entry f (first found) any).symm
    | false => exact (plain fun _ _ => any).symm
  · next other =>
    exact (plain fun f found => absurd found (other f 0)).symm

theorem captureAt_untouched {s : State} {cells : List Host.Cell} {off : Nat} (h : Untouched s.straps cells off 4) :
    captureAt cells s off = s := by
  unfold captureAt lanesOf
  dsimp only
  rw [h.lanes]
  split <;> rfl

/-- Of captures in a row of which one alone changes anything, that one is left. -/
theorem foldl_only {f : State → Nat → State} (keeps : ∀ s o, (f s o).straps = s.straps) {l : List Nat} {q : Nat} (nodup : l.Nodup) (mem : q ∈ l)
    {s : State} (others : ∀ x : State, x.straps = s.straps → ∀ o ∈ l, o ≠ q → f x o = x) : l.foldl f s = f s q := by
  have still (x : State) (straps : x.straps = s.straps) (l : List Nat) (h : ∀ o ∈ l, f x o = x) : l.foldl f x = x := by
    induction l with
    | nil => rfl
    | cons o l ih =>
      rw [List.foldl_cons, h o (List.mem_cons_self ..)]
      exact ih fun o mem => h o (List.mem_cons_of_mem _ mem)
  induction l with
  | nil => exact absurd mem (by simp)
  | cons o l ih =>
    obtain ⟨fresh, nodup⟩ := List.nodup_cons.mp nodup
    rw [List.foldl_cons]
    rcases List.mem_cons.mp mem with rfl | mem
    · exact still _ (keeps s q) l fun x hx => others _ (keeps s q) x (List.mem_cons_of_mem _ hx) fun e => fresh (e ▸ hx)
    · rw [others s rfl o (List.mem_cons_self ..) fun e => fresh (e ▸ mem)]
      exact ih nodup mem fun x straps o hx => others x straps o (List.mem_cons_of_mem _ hx)

theorem captureWords_none (s : State) (words : List (CWord × List Lane)) (h : ∀ p ∈ words, anyLane p.2 = false) : captureWords s words = s := by
  unfold captureWords
  induction words with
  | nil => rfl
  | cons p words ih =>
    rw [List.foldl_cons, h p (List.mem_cons_self ..)]
    exact ih fun q mem => h q (List.mem_cons_of_mem _ mem)

/-- Sixteen bytes of which none is written are captured by nothing. -/
theorem captureQuarter_untouched {s : State} {cells : List Host.Cell} {off : Nat} (aligned : off % 16 = 0)
    (h : Untouched s.straps cells off 16) : captureQuarter cells s off = s := by
  have words : captureWords s (wordsIn s.straps cells off) = s := by
    refine captureWords_none s _ fun p mem => ?_
    obtain ⟨o, offs, found⟩ := List.mem_filterMap.mp mem
    obtain ⟨w, -, rfl⟩ := Option.map_eq_some_iff.mp found
    refine Untouched.lanes fun c written range => h c written ?_
    simp only [List.mem_cons, List.not_mem_nil, or_false] at offs
    omega
  exact captureQuarter_eq aligned ⟨fun f _ any => absurd (any.symm.trans h.lanes) (by decide), fun _ => words.symm⟩

/-- A block of whose bytes only sixteen are written is captured as those sixteen. -/
theorem captureWrite_quarter {s t : State} {cells : List Host.Cell} {q : Nat} (aligned : q % 16 = 0)
    (inside : ∀ c ∈ cells, controlBase s.straps + q ≤ c.1 ∧ c.1 < controlBase s.straps + q + 16) (h : QuarterCaptured s t cells q) :
    captureWrite s cells (q / 64 * 64) = t := by
  obtain ⟨block, e⟩ : ∃ block, q / 64 * 64 = block := ⟨_, rfl⟩
  have place : q = block ∨ q = block + 16 ∨ q = block + 32 ∨ q = block + 48 := by omega
  unfold captureWrite
  rw [e, ← captureQuarter_eq aligned h]
  refine foldl_only (captureQuarter_straps cells) (by simp) (by simpa using place) fun x straps o mem ne => ?_
  simp only [List.mem_cons, List.not_mem_nil, or_false] at mem
  refine captureQuarter_untouched (by omega) fun c written range => ?_
  have := inside c written
  rw [straps] at range
  omega

/-! ### The bytes sent to memory (R185) -/

theorem mem_wordCells {s : State} {w : CWord} {c : Host.Cell} (h : c ∈ wordCells s w) :
    controlBase s.straps + w.offset ≤ c.1 ∧ c.1 < controlBase s.straps + w.offset + 4 := by
  obtain ⟨a, b⟩ := c
  obtain ⟨i, low, rfl, -⟩ := (mem_cellsFrom ..).mp h
  exact ⟨Nat.le_add_right .., Nat.add_lt_add_left low _⟩

theorem leftAt_word {s : State} {cells : List Host.Cell} {off : Nat} {w : CWord} (aligned : off % 4 = 0) (found : wordAt off = some w) :
    leftAt s cells off = if anyLane (lanesAt cells (controlBase s.straps + off) 4) then wordCells s w else [] := by
  have any : anyLane (lanesAt cells (controlBase s.straps + off) 4)
      = !(cells.filter fun c => inRange c.1 (controlBase s.straps + off) 4).isEmpty := by
    rw [Bool.eq_iff_iff, anyLane_lanesAt]
    simp [inRange]
  unfold leftAt wordCells
  rw [offset_wordAt aligned found, found, any]
  dsimp only
  cases (cells.filter fun c => inRange c.1 (controlBase s.straps + off) 4).isEmpty <;> rfl

theorem leftAt_none {s : State} {cells : List Host.Cell} {off : Nat} (none : wordAt off = none) :
    leftAt s cells off = cells.filter fun c => inRange c.1 (controlBase s.straps + off) 4 := by
  unfold leftAt
  rw [none]

theorem leftAt_untouched {s : State} {cells : List Host.Cell} {off : Nat} (aligned : off % 4 = 0) (h : Untouched s.straps cells off 4) :
    leftAt s cells off = [] := by
  cases found : wordAt off with
  | none =>
    rw [leftAt_none found, List.filter_eq_nil_iff]
    intro c mem range
    refine h c mem ?_
    simpa [inRange] using range
  | some w => rw [leftAt_word aligned found, h.lanes]; rfl

/-- Of lists in a row of which one alone is not empty, that one is left. -/
theorem flatMap_only {α : Type} (g : Nat → List α) {l : List Nat} {q : Nat} (nodup : l.Nodup) (mem : q ∈ l) (others : ∀ o ∈ l, o ≠ q → g o = []) :
    l.flatMap g = g q := by
  induction l with
  | nil => exact absurd mem (by simp)
  | cons o l ih =>
    obtain ⟨fresh, nodup⟩ := List.nodup_cons.mp nodup
    rw [List.flatMap_cons]
    rcases List.mem_cons.mp mem with rfl | mem
    · have rest : l.flatMap g = [] :=
        List.flatMap_eq_nil_iff.mpr fun x hx => others x (List.mem_cons_of_mem _ hx) fun e => fresh (e ▸ hx)
      rw [rest, List.append_nil]
    · rw [others o (List.mem_cons_self ..) fun e => fresh (e ▸ mem), List.nil_append]
      exact ih nodup mem fun x hx => others x (List.mem_cons_of_mem _ hx)

/-- With sixteen bytes of a block written alone, what is sent to memory is what is left at their four offsets. -/
theorem leftCells_quarter {s : State} {cells : List Host.Cell} {q : Nat} (aligned : q % 16 = 0)
    (inside : ∀ c ∈ cells, controlBase s.straps + q ≤ c.1 ∧ c.1 < controlBase s.straps + q + 16) :
    leftCells s cells (q / 64 * 64) = [q, q + 4, q + 8, q + 12].flatMap (leftAt s cells) := by
  have other (o : Nat) (ho : o % 4 = 0) (ne : o / 16 ≠ q / 16) : leftAt s cells o = [] := by
    refine leftAt_untouched ho fun c mem range => ?_
    have := inside c mem
    omega
  have offsets : leftCells s cells (q / 64 * 64)
      = [q / 64 * 64, q / 64 * 64 + 16, q / 64 * 64 + 32, q / 64 * 64 + 48].flatMap
          fun o => [o, o + 4, o + 8, o + 12].flatMap (leftAt s cells) := by
    unfold leftCells
    rw [show List.range 16 = [0, 1, 2, 3, 4, 5, 6, 7, 8, 9, 10, 11, 12, 13, 14, 15] from rfl]
    simp [Nat.add_assoc]
  have none (o : Nat) (ho : o % 16 = 0) (ne : o ≠ q) : [o, o + 4, o + 8, o + 12].flatMap (leftAt s cells) = [] := by
    simp [other o (by omega) (by omega), other (o + 4) (by omega) (by omega), other (o + 8) (by omega) (by omega),
      other (o + 12) (by omega) (by omega)]
  rw [offsets]
  obtain ⟨block, e⟩ : ∃ block, q / 64 * 64 = block := ⟨_, rfl⟩
  rw [e]
  have place : q = block ∨ q = block + 16 ∨ q = block + 32 ∨ q = block + 48 := by omega
  refine flatMap_only _ (by simp) (by simpa using place) fun o mem ne => none o ?_ ne
  simp only [List.mem_cons, List.not_mem_nil, or_false] at mem
  omega

end Sys2Proof.Machine
end

section
/-! Writes of one control word (O22, O24). -/

namespace Sys2Proof.Machine

/-! ### Requests to the control window (R32, R36, R38) -/

theorem controlBase_spec (straps : BitVec 2) : controlBase straps % 64 = 0 ∧ controlBase straps + 0x4000 ≤ 2 ^ 32 := by
  have h := straps.isLt
  unfold controlBase
  omega

theorem writeRequest_addr (straps : BitVec 2) {offset : Nat} (h : offset < 0x4000) (beats : Byte) (lanes : List Lane) :
    (writeRequest (controlBase straps + offset) beats lanes).addr.toNat = controlBase straps + offset := by
  obtain ⟨-, space⟩ := controlBase_spec straps
  show (BitVec.ofNat 32 (controlBase straps + offset)).toNat = _
  rw [BitVec.toNat_ofNat]
  exact Nat.mod_eq_of_lt (by omega)

/-- With the shielded ranges off the window, its addresses outside the status block are of the control class (R38). -/
theorem classOf_control {s : State} (clear : WindowClear s) {a : Nat} (low : controlBase s.straps ≤ a) (high : a < controlBase s.straps + 0x4000)
    (outside : a < controlBase s.straps + 0x200 ∨ controlBase s.straps + 0x300 ≤ a) : s.classOf a = .control := by
  obtain ⟨ring, region⟩ := clear
  have window : inRange a (controlBase s.straps) 0x4000 = true := by simp [inRange]; omega
  have off (b n : Nat) (apart : overlap b n (controlBase s.straps) 0x4000 = false) : ¬ inRange a b n = true := fun inside =>
    absurd ((overlap_iff ..).mpr ⟨a, inside, window⟩) (by rw [apart]; decide)
  have status : ¬ inRange a (controlBase s.straps + 0x200) 0x100 = true := by simp [inRange]; omega
  unfold State.classOf
  rw [if_neg status, if_neg (off _ _ ring), if_neg (off _ _ region), if_pos window]

/-- The written bytes of a valid request in the control window lie in one 64-byte block of it. -/
theorem control_block (straps : BitVec 2) {offset : Nat} (h : offset < 0x4000) {beats : Byte} {lanes : List Lane}
    (valid : requestError (writeRequest (controlBase straps + offset) beats lanes) = none) {c : Host.Cell}
    (mem : c ∈ reqCells (writeRequest (controlBase straps + offset) beats lanes)) :
    controlBase straps + offset / 64 * 64 ≤ c.1 ∧ c.1 < controlBase straps + offset / 64 * 64 + 64 := by
  obtain ⟨aligned, -⟩ := controlBase_spec straps
  obtain ⟨-, -, -, fits⟩ := requestError_none valid
  obtain ⟨j, low, addr⟩ := mem_reqCells mem
  rw [writeRequest_addr straps h] at fits addr
  change _ < 16 * beats.toNat at low
  change _ + 16 * beats.toNat ≤ 64 at fits
  omega

/-- A write of bytes of the control class is taken at once and captured (R34, R41). -/
theorem arrive_control {s : State} (ready : PortReady s) (tick : Nat) {offset : Nat} (h : offset < 0x4000) {beats : Byte} {lanes : List Lane}
    (valid : requestError (writeRequest (controlBase s.straps + offset) beats lanes) = none)
    (some : reqCells (writeRequest (controlBase s.straps + offset) beats lanes) ≠ [])
    (control : ∀ c ∈ reqCells (writeRequest (controlBase s.straps + offset) beats lanes), s.classOf c.1 = .control) :
    arrive s tick (writeRequest (controlBase s.straps + offset) beats lanes)
      = takeControlWrite (atTime s tick) (reqCells (writeRequest (controlBase s.straps + offset) beats lanes)) (offset / 64 * 64) := by
  have inBlock {c : Host.Cell} := control_block s.straps h valid (c := c)
  obtain ⟨r, e⟩ : ∃ r, writeRequest (controlBase s.straps + offset) beats lanes = r := ⟨_, rfl⟩
  have kind : r.kind = .write := by rw [← e]; rfl
  rw [e] at valid some control inBlock ⊢
  have class' (c : Host.Cell) (mem : c ∈ reqCells r) : (atTime s tick).classOf c.1 = .control := control c mem
  have whole (c : Host.Cell) (mem : c ∈ reqCells r) : ((atTime s tick).classOf c.1).isShielded = false := by
    rw [class' c mem]
    rfl
  obtain ⟨noted, left⟩ := noteDiscards_none (atTime s tick) r whole
  obtain ⟨c, mem, -, -, taken⟩ := takeRemaining_class (atTime s tick) (reqCells r) some .control class'
  rw [arrive_ready ready, takeRequest_write valid kind, takeWrite_eq _ some, noted, left, taken rfl]
  have block : (c.1 - controlBase (atTime s tick).straps) / 64 * 64 = offset / 64 * 64 := by
    show (c.1 - controlBase s.straps) / 64 * 64 = _
    have := inBlock mem
    omega
  rw [block]

/-- What the port is left with once a control write is captured (R41): its claim, with the refresh writes to follow where the edit
selector has changed. -/
theorem takeControlWrite_eq {s t : State} {cells out : List Host.Cell} {block : Nat} (captured : captureWrite s cells block = t)
    (left : leftCells t cells block = out) :
    (t.cc.selected = s.cc.selected → takeControlWrite s cells block = serving t out)
    ∧ (t.cc.selected ≠ s.cc.selected → takeControlWrite s cells block
        = { t with port := { t.port with phase := .refresh (out :: refreshCells t), claim := true } }) := by
  unfold takeControlWrite
  rw [captured]
  dsimp only
  rw [left]
  exact ⟨fun same => by rw [if_pos same]; rfl, fun changed => by rw [if_neg changed]⟩

/-! ### A write of one word -/

theorem anyLane_wordLanes {en : BitVec 4} (some : en ≠ 0) (v : Word) : anyLane (wordLanes en v) = true := by
  by_contra none
  refine some (BitVec.eq_of_getLsbD_eq fun i low => ?_)
  unfold anyLane wordLanes at none
  rw [List.any_map, List.any_eq_true] at none
  refine Eq.trans ?_ BitVec.getLsbD_zero.symm
  refine Bool.eq_false_iff.mpr fun set => none ⟨i, List.mem_range.mpr low, ?_⟩
  simp [set]

section
variable (s : State) (w : CWord) (en : BitVec 4) (v : Word)

theorem wordRequest_addr : (wordRequest s w.offset (wordLanes en v)).addr.toNat = controlBase s.straps + w.offset / 16 * 16 := by
  have := w.offset_spec
  exact writeRequest_addr s.straps (by omega) ..

theorem wordRequest_lane (j : Nat) :
    ((wordRequest s w.offset (wordLanes en v)).lanes[j]?).getD none
      = if w.offset % 16 ≤ j then ((wordLanes en v)[j - w.offset % 16]?).getD none else none := by
  show ((List.replicate (w.offset % 16) none ++ wordLanes en v ++ List.replicate (12 - w.offset % 16) none)[j]?).getD none = _
  rw [List.append_assoc, List.getElem?_append, List.length_replicate]
  split
  · next low =>
    rw [if_neg (by omega), List.getElem?_replicate]
    split <;> rfl
  · next high =>
    rw [if_pos (by omega), List.getElem?_append]
    split
    · rfl
    · next beyond =>
      rw [List.getElem?_eq_none (by omega : (wordLanes en v).length ≤ _), List.getElem?_replicate]
      split <;> rfl

theorem wordRequest_lanesAt :
    lanesAt (reqCells (wordRequest s w.offset (wordLanes en v))) (controlBase s.straps + w.offset) 4 = wordLanes en v := by
  have aligned := w.offset_spec
  have lane (i : Nat) (low : i < 4) : cellAt (reqCells (wordRequest s w.offset (wordLanes en v))) (controlBase s.straps + w.offset + i)
      = if en.getLsbD i then some (byteOf v i) else none := by
    have addr : controlBase s.straps + w.offset + i = (wordRequest s w.offset (wordLanes en v)).addr.toNat + (w.offset % 16 + i) := by
      rw [wordRequest_addr]
      omega
    rw [addr, cellAt_reqCells _ _ (show _ < 16 * 1 by omega), wordRequest_lane, if_pos (by omega), Nat.add_sub_cancel_left]
    unfold wordLanes
    rw [List.getElem?_map, List.getElem?_range low]
    rfl
  unfold lanesAt
  conv_rhs => unfold wordLanes
  exact List.map_congr_left fun i mem => lane i (List.mem_range.mp mem)

theorem wordRequest_inside {c : Host.Cell} (mem : c ∈ reqCells (wordRequest s w.offset (wordLanes en v))) :
    controlBase s.straps + w.offset ≤ c.1 ∧ c.1 < controlBase s.straps + w.offset + 4 := by
  obtain ⟨a, b⟩ := c
  obtain ⟨j, -, lane, rfl⟩ := mem_reqCells_iff.mp mem
  have at' := wordRequest_lane s w en v j
  rw [lane] at at'
  rw [wordRequest_addr]
  dsimp only
  by_cases low : w.offset % 16 ≤ j
  · rw [if_pos low] at at'
    have high : j - w.offset % 16 < 4 := by
      by_contra beyond
      rw [List.getElem?_eq_none (by show (wordLanes en v).length ≤ _; unfold wordLanes; simp; omega)] at at'
      exact absurd at' (by simp)
    omega
  · rw [if_neg low] at at'
    exact absurd at' (by simp)

end

/-- A word's own bytes alone are written: the word is captured and sent to memory whole. -/
theorem word_captured {s : State} {cells : List Host.Cell} (w : CWord) (plain : ∀ f i, w ≠ .fixture f i)
    (inside : ∀ c ∈ cells, controlBase s.straps + w.offset ≤ c.1 ∧ c.1 < controlBase s.straps + w.offset + 4)
    (any : anyLane (lanesAt cells (controlBase s.straps + w.offset) 4) = true) :
    captureWrite s cells (w.offset / 64 * 64) = captureMerged s w (mergeWord (s.cc.word w) (lanesAt cells (controlBase s.straps + w.offset) 4))
    ∧ ∀ t : State, t.straps = s.straps → leftCells t cells (w.offset / 64 * 64) = wordCells t w := by
  obtain ⟨aligned, -, -⟩ := w.offset_spec
  obtain ⟨q, hq⟩ : ∃ q, w.offset / 16 * 16 = q := ⟨_, rfl⟩
  have block : w.offset / 64 * 64 = q / 64 * 64 := by omega
  have place : w.offset = q ∨ w.offset = q + 4 ∨ w.offset = q + 8 ∨ w.offset = q + 12 := by omega
  have inside' (c : Host.Cell) (mem : c ∈ cells) : controlBase s.straps + q ≤ c.1 ∧ c.1 < controlBase s.straps + q + 16 := by
    have := inside c mem
    omega
  have untouched (o : Nat) (ho : o % 4 = 0) (ne : o ≠ w.offset) : Untouched s.straps cells o 4 := fun c mem range => by
    have := inside c mem
    omega
  rw [block]
  constructor
  · refine captureWrite_quarter (by omega) inside' ⟨fun f found => ?_, fun _ => ?_⟩
    · have first := offset_wordAt (by omega) found
      change 0x800 + 16 * f.val + 4 * 0 = q at first
      have index : (w.offset - q) / 4 < 4 := by omega
      have entry : (CWord.fixture f ⟨(w.offset - q) / 4, index⟩).offset = w.offset := by
        show 0x800 + 16 * f.val + 4 * ((w.offset - q) / 4) = w.offset
        omega
      have found' := wordAt_offset (.fixture f ⟨(w.offset - q) / 4, index⟩)
      rw [entry, wordAt_offset] at found'
      exact absurd (Option.some.inj found') (plain _ _)
    · rw [← captureQuarter_words, foldl_only (captureAt_straps cells) (by simp) (by simpa using place)]
      · unfold captureAt lanesOf
        rw [wordAt_offset]
        dsimp only
        rw [if_pos any]
      · intro x straps o mem ne
        refine captureAt_untouched ?_
        rw [straps]
        refine untouched o ?_ ne
        simp only [List.mem_cons, List.not_mem_nil, or_false] at mem
        omega
  · intro t straps
    rw [leftCells_quarter (by omega) (by rw [straps]; exact inside')]
    refine (flatMap_only _ (by simp) (by simpa using place) fun o mem ne => ?_).trans ?_
    · refine leftAt_untouched ?_ (straps ▸ untouched o ?_ ne)
      all_goals
        simp only [List.mem_cons, List.not_mem_nil, or_false] at mem
        omega
    · rw [leftAt_word aligned (wordAt_offset w), straps, if_pos any]

theorem wordRequest_valid (s : State) (w : CWord) (en : BitVec 4) (v : Word) : requestError (wordRequest s w.offset (wordLanes en v)) = none := by
  obtain ⟨aligned, -⟩ := controlBase_spec s.straps
  have addr := wordRequest_addr s w en v
  have beats : (wordRequest s w.offset (wordLanes en v)).beats.toNat = 1 := rfl
  unfold requestError
  rw [addr, beats, if_neg (by omega), if_neg (by omega), if_neg (by omega)]

/-- A write of one word, other than a fixture's, is taken at once: its capture, and its claim (R41, R185). -/
theorem arriveWord_eq {s : State} (ready : ControlReady s) (tick : Nat) (w : CWord) (plain : ∀ f i, w ≠ .fixture f i) {en : BitVec 4}
    (some : en ≠ 0) (v : Word) :
    let t := captureMerged (atTime s tick) w (mergeWord (s.cc.word w) (wordLanes en v))
    (t.cc.selected = s.cc.selected → arriveWord s tick w en v = serving t (wordCells t w))
    ∧ (t.cc.selected ≠ s.cc.selected → arriveWord s tick w en v
        = { t with port := { t.port with phase := .refresh (wordCells t w :: refreshCells t), claim := true } }) := by
  intro t
  obtain ⟨port, clear⟩ := ready
  obtain ⟨-, high, outside⟩ := w.offset_spec
  have inside {c : Host.Cell} := wordRequest_inside s w en v (c := c)
  have lanes := wordRequest_lanesAt s w en v
  have any : anyLane (lanesAt (reqCells (wordRequest s w.offset (wordLanes en v))) (controlBase s.straps + w.offset) 4) = true := by
    rw [lanes]
    exact anyLane_wordLanes some v
  have nonempty : reqCells (wordRequest s w.offset (wordLanes en v)) ≠ [] := by
    obtain ⟨c, mem, -⟩ := (anyLane_lanesAt ..).mp any
    exact List.ne_nil_of_mem mem
  have control (c : Host.Cell) (mem : c ∈ reqCells (wordRequest s w.offset (wordLanes en v))) : s.classOf c.1 = .control := by
    have := inside mem
    exact classOf_control clear (by omega) (by omega) (by omega)
  have taken : arriveWord s tick w en v
      = takeControlWrite (atTime s tick) (reqCells (wordRequest s w.offset (wordLanes en v))) (w.offset / 16 * 16 / 64 * 64) :=
    arrive_control port tick (by omega) (wordRequest_valid s w en v) nonempty control
  have block : w.offset / 16 * 16 / 64 * 64 = w.offset / 64 * 64 := by omega
  rw [block] at taken
  obtain ⟨captured, left⟩ := word_captured (s := atTime s tick) w plain (fun c mem => inside mem) any
  have capture : captureWrite (atTime s tick) (reqCells (wordRequest s w.offset (wordLanes en v))) (w.offset / 64 * 64) = t :=
    captured.trans (congrArg (fun l => captureMerged (atTime s tick) w (mergeWord (s.cc.word w) l)) lanes)
  have straps : t.straps = (atTime s tick).straps := captureMerged_straps ..
  clear_value t
  obtain ⟨same, changed⟩ := takeControlWrite_eq capture (left t straps)
  rw [taken]
  exact ⟨same, changed⟩

/-- A command that writes one word arrives as that word's write. -/
theorem exec_wordCommand {c : Instr} {s : State} {tick : Nat} {w : CWord} {en : BitVec 4} {v : Word}
    (h : wordCommand s c = some (tick, w, en, v)) : exec c s = .next (arriveWord s tick w en v) := by
  unfold wordCommand at h
  split at h <;> cases h <;> rfl

/-- Such a command's word is neither a fixture's nor the edit selector. -/
theorem wordCommand_word {c : Instr} {s : State} {tick : Nat} {w : CWord} {en : BitVec 4} {v : Word}
    (h : wordCommand s c = some (tick, w, en, v)) : w ≠ .command 5 ∧ ∀ f i, w ≠ .fixture f i := by
  have lamp (l : Fin 2) : lampWordOf l ≠ .command 5 ∧ ∀ f i, lampWordOf l ≠ .fixture f i := by
    unfold lampWordOf
    split <;> simp
  unfold wordCommand at h
  split at h <;> cases h <;> simp [lamp, ite_eq_iff]

/-- Settles O22. -/
theorem controlWordWritesAreCaptured : Obligations.ControlWordWritesAreCaptured := by
  unfold Obligations.ControlWordWritesAreCaptured
  intro c s tick w en v ready command some t
  obtain ⟨selector, plain⟩ := wordCommand_word command
  rw [exec_wordCommand command]
  exact congrArg _ ((arriveWord_eq ready tick w plain some v).1 (captureMerged_selected _ _ _ selector))

/-! ### The edit selector (R147) -/

theorem code_lookOfCode {n : Nat} (h : n ≤ 2) : (lookOfCode n).code = n := by
  unfold lookOfCode
  split
  · exact Eq.symm ‹_›
  · split
    · exact Eq.symm ‹_›
    · show 2 = n
      omega

theorem lookOfCode_code (l : Look) : lookOfCode l.code = l := by cases l <;> rfl

/-- Settles O24. -/
theorem editSelectorRefreshesTheBlock : Obligations.EditSelectorRefreshesTheBlock := by
  unfold Obligations.EditSelectorRefreshesTheBlock
  intro tick en v s ready some range m s1 s2
  have arrives := arriveWord_eq ready tick (.command 5) (by simp) some v
  have capture : captureMerged (atTime s tick) (.command 5) (mergeWord (s.cc.word (.command 5)) (wordLanes en v))
      = captureSelector (atTime s tick) m := rfl
  rw [capture] at arrives
  have refused (h : field m 0 2 = 3) : captureSelector (atTime s tick) m = s1 := if_pos h
  have taken (h : field m 0 2 ≠ 3) : captureSelector (atTime s tick) m = s2 := if_neg h
  have selected : s2.cc.selected = lookOfCode (field m 0 2) := by
    have word : s2.cc.command[5] = m := put_same s.cc.command 5 m
    show lookOfCode (field s2.cc.command[5] 0 2) = _
    rw [word]
  refine ⟨fun h => ?_, fun h => ?_, fun look changed code => ?_⟩
  · rw [refused h] at arrives
    exact congrArg _ (arrives.1 rfl)
  · rw [taken (by omega)] at arrives
    exact congrArg _ (arrives.1 (by rw [selected, h]; rfl))
  · have small : look.code ≤ 2 := by cases look <;> decide
    rw [taken (by omega)] at arrives
    rw [← code, lookOfCode_code] at selected
    have other : s2.cc.selected ≠ s.cc.selected := by
      rw [selected]
      intro same
      refine changed ?_
      rw [← code, same]
      exact code_lookOfCode range
    have words : s2.cc.look look = s.cc.look look := by cases look <;> rfl
    refine congrArg _ ((arrives.2 other).trans ?_)
    unfold refreshCells
    rw [selected, words]
    rfl

end Sys2Proof.Machine
end

section
/-! Writes of table entries and of any control words (O23). -/

namespace Sys2Proof.Machine

/-! ### Sixteen lanes as four words -/

theorem lanesAt_sub (cells : List Host.Cell) (base : Nat) {k n m : Nat} (h : k + n ≤ m) :
    lanesAt cells (base + k) n = ((lanesAt cells base m).drop k).take n := by
  unfold lanesAt
  refine List.ext_getElem (by simp; omega) fun i _ _ => ?_
  simp [Nat.add_assoc]

theorem lanesAt_request (r : Request) {n : Nat} (length : r.lanes.length = n) (beats : n = 16 * r.beats.toNat) :
    lanesAt (reqCells r) r.addr.toNat n = r.lanes := by
  unfold lanesAt
  refine List.ext_getElem (by simp [length]) fun i low high => ?_
  rw [List.getElem_map, List.getElem_range, cellAt_reqCells r i (by omega), List.getElem?_eq_getElem high]
  rfl

/-- A fixture entry's sixteen bytes hold four words of it. -/
theorem wordAt_entry {off : Nat} {f : Fin 128} (aligned : off % 16 = 0) (found : wordAt off = some (.fixture f 0)) {o : Nat}
    (word : o % 4 = 0) (low : off ≤ o) (high : o < off + 16) : ∃ i, wordAt o = some (.fixture f i) := by
  have first := offset_wordAt (by omega) found
  change 0x800 + 16 * f.val + 4 * 0 = off at first
  refine ⟨⟨(o - off) / 4, by omega⟩, ?_⟩
  have entry : (CWord.fixture f ⟨(o - off) / 4, by omega⟩).offset = o := by
    show 0x800 + 16 * f.val + 4 * ((o - off) / 4) = o
    omega
  rw [← wordAt_offset (.fixture f ⟨(o - off) / 4, by omega⟩), entry]

/-! ### Table entries (R57, R58, R153) -/

theorem captureWords_selected (s : State) (words : List (CWord × List Lane)) (other : ∀ p ∈ words, p.1 ≠ .command 5) :
    (captureWords s words).cc.selected = s.cc.selected := by
  unfold captureWords
  induction words generalizing s with
  | nil => rfl
  | cons p words ih =>
    rw [List.foldl_cons, ih _ fun q mem => other q (List.mem_cons_of_mem _ mem)]
    split
    · exact captureMerged_selected _ _ _ (other p (List.mem_cons_self ..))
    · rfl

theorem entryWritten_cc (s : State) (f : Fin 128) : (entryWritten s f).cc = s.cc := by
  unfold entryWritten
  dsimp only
  split <;> rfl

/-- The four words of an entry at offset `off`, none of them the edit selector. -/
structure EntryAt (word : Fin 4 → CWord) (off : Nat) : Prop where
  offset : ∀ i, (word i).offset = off + 4 * i.val
  aligned : off % 16 = 0
  other : ∀ i, word i ≠ .command 5

section
variable {word : Fin 4 → CWord} {off : Nat} (entry : EntryAt word off) {lanes : List Lane} (length : lanes.length = 16)
include entry

theorem EntryAt.found (i : Fin 4) : wordAt (off + 4 * i.val) = some (word i) := by rw [← entry.offset i, wordAt_offset]

theorem EntryAt.inside : off + 16 ≤ 0x1C00 ∧ (off + 16 ≤ 0x200 ∨ 0x300 ≤ off) := by
  obtain ⟨-, high, outside⟩ := (word 3).offset_spec
  have aligned := entry.aligned
  rw [entry.offset 3, show ((3 : Fin 4) : Nat) = 3 from rfl] at high outside
  omega

include length

theorem EntryAt.lanesAt_eq (straps : BitVec 2) :
    lanesAt (reqCells (writeRequest (controlBase straps + off) 1 lanes)) (controlBase straps + off) 16 = lanes := by
  have addr := writeRequest_addr straps (show off < 0x4000 by have := entry.inside; omega) 1 lanes
  have read := lanesAt_request (writeRequest (controlBase straps + off) 1 lanes) (n := 16) length rfl
  rw [addr] at read
  exact read

theorem EntryAt.wordsIn_eq (straps : BitVec 2) :
    wordsIn straps (reqCells (writeRequest (controlBase straps + off) 1 lanes)) off = entryWords word lanes := by
  have read := entry.lanesAt_eq length straps
  generalize reqCells (writeRequest (controlBase straps + off) 1 lanes) = cells at read ⊢
  have w0 : wordAt off = some (word 0) := entry.found 0
  have w1 : wordAt (off + 4) = some (word 1) := entry.found 1
  have w2 : wordAt (off + 8) = some (word 2) := entry.found 2
  have w3 : wordAt (off + 12) = some (word 3) := entry.found 3
  have l0 : lanesAt cells (controlBase straps + off) 4 = lanes.take 4 := by
    rw [← read, ← List.drop_zero (l := lanesAt cells _ 16), ← lanesAt_sub cells _ (by omega), Nat.add_zero]
  have sub (k : Nat) (h : k + 4 ≤ 16) : lanesAt cells (controlBase straps + (off + k)) 4 = (lanes.drop k).take 4 := by
    rw [← Nat.add_assoc, lanesAt_sub cells (controlBase straps + off) (m := 16) h, read]
  unfold wordsIn entryWords
  simp only [List.filterMap_cons, List.filterMap_nil, w0, w1, w2, w3, Option.map_some, l0, sub 4 (by decide), sub 8 (by decide), sub 12 (by decide)]

/-- What an entry's written words leave for memory. -/
theorem EntryAt.left (s : State) :
    [off, off + 4, off + 8, off + 12].flatMap (leftAt s (reqCells (writeRequest (controlBase s.straps + off) 1 lanes)))
      = entryCells s (entryWords word lanes) := by
  have aligned := entry.aligned
  rw [← entry.wordsIn_eq length s.straps]
  have word (o : Nat) (i : Fin 4) (ho : o = off + 4 * i.val) : leftAt s (reqCells (writeRequest (controlBase s.straps + off) 1 lanes)) o
      = if anyLane (lanesAt (reqCells (writeRequest (controlBase s.straps + off) 1 lanes)) (controlBase s.straps + o) 4) then wordCells s (word i) else [] :=
    leftAt_word (by omega) (by rw [ho]; exact entry.found i)
  have w0 : wordAt off = some _ := entry.found 0
  have w1 : wordAt (off + 4) = some _ := entry.found 1
  have w2 : wordAt (off + 8) = some _ := entry.found 2
  have w3 : wordAt (off + 12) = some _ := entry.found 3
  unfold entryCells wordsIn
  simp only [List.flatMap_cons, List.flatMap_nil, List.filterMap_cons, List.filterMap_nil, w0, w1, w2, w3, Option.map_some,
    word off 0 rfl, word (off + 4) 1 rfl, word (off + 8) 2 rfl, word (off + 12) 3 rfl]

/-- A write of an entry is taken at once: its captures, and its claim (R41, R185). -/
theorem EntryAt.arrive_eq {s : State} (ready : ControlReady s) (tick : Nat) (any : anyLane lanes = true) {t : State}
    (captured : QuarterCaptured (atTime s tick) t (reqCells (writeRequest (controlBase s.straps + off) 1 lanes)) off)
    (selected : t.cc.selected = s.cc.selected) :
    arrive s tick (writeRequest (controlBase s.straps + off) 1 lanes) = serving t (entryCells t (entryWords word lanes)) := by
  obtain ⟨port, clear⟩ := ready
  have aligned := entry.aligned
  obtain ⟨high, outside⟩ := entry.inside
  obtain ⟨base, -⟩ := controlBase_spec s.straps
  have addr := writeRequest_addr s.straps (show off < 0x4000 by omega) 1 lanes
  have inside (c : Host.Cell) (mem : c ∈ reqCells (writeRequest (controlBase s.straps + off) 1 lanes)) :
      controlBase s.straps + off ≤ c.1 ∧ c.1 < controlBase s.straps + off + 16 := by
    obtain ⟨j, low, e⟩ := mem_reqCells mem
    rw [addr] at e
    change j < 16 * 1 at low
    omega
  have straps : t.straps = s.straps := by rw [← captureQuarter_eq aligned captured, captureQuarter_straps]; rfl
  have lanes16 := entry.lanesAt_eq length s.straps
  have left := entry.left length t
  rw [straps] at left
  have valid : requestError (writeRequest (controlBase s.straps + off) 1 lanes) = none := by
    have beats : (writeRequest (controlBase s.straps + off) 1 lanes).beats.toNat = 1 := rfl
    unfold requestError
    rw [addr, beats, if_neg (by omega), if_neg (by omega), if_neg (by omega)]
  have nonempty : reqCells (writeRequest (controlBase s.straps + off) 1 lanes) ≠ [] := by
    rw [← lanes16] at any
    obtain ⟨c, mem, -⟩ := (anyLane_lanesAt ..).mp any
    exact List.ne_nil_of_mem mem
  rw [arrive_control port tick (by omega) valid nonempty fun c mem => classOf_control clear (by have := inside c mem; omega)
    (by have := inside c mem; omega) (by have := inside c mem; omega)]
  have own := leftCells_quarter (s := t) (cells := reqCells (writeRequest (controlBase s.straps + off) 1 lanes)) aligned
    (by rw [straps]; exact inside)
  rw [left] at own
  exact (takeControlWrite_eq (captureWrite_quarter (s := atTime s tick) aligned inside captured) own).1 selected

end

end Sys2Proof.Machine
end

section
/-! Control writes of any words (O23). -/

namespace Sys2Proof.Machine

/-! ### The whole block (R184, R185) -/

theorem captureWrite_eq {s s1 s2 s3 s4 : State} {cells : List Host.Cell} {block : Nat} (aligned : block % 16 = 0)
    (h1 : QuarterCaptured s s1 cells block) (h2 : QuarterCaptured s1 s2 cells (block + 16)) (h3 : QuarterCaptured s2 s3 cells (block + 32))
    (h4 : QuarterCaptured s3 s4 cells (block + 48)) : captureWrite s cells block = s4 := by
  unfold captureWrite
  simp only [List.foldl_cons, List.foldl_nil]
  rw [captureQuarter_eq aligned h1, captureQuarter_eq (by omega) h2, captureQuarter_eq (by omega) h3, captureQuarter_eq (by omega) h4]

section
variable (s : State) (cells : List Host.Cell)

theorem mem_leftAt {off : Nat} (aligned : off % 4 = 0) (a : Nat) (b : Byte) :
    (a, b) ∈ leftAt s cells off ↔
      (∃ w, wordAt off = some w ∧ (∃ c ∈ cells, controlBase s.straps + off ≤ c.1 ∧ c.1 < controlBase s.straps + off + 4) ∧ (a, b) ∈ wordCells s w)
      ∨ (wordAt off = none ∧ (a, b) ∈ cells ∧ controlBase s.straps + off ≤ a ∧ a < controlBase s.straps + off + 4) := by
  cases found : wordAt off with
  | none =>
    rw [leftAt_none found]
    simp [inRange]
  | some w =>
    rw [leftAt_word aligned found, ← anyLane_lanesAt]
    split
    · next any => simp [any]
    · next none => simp [none]

/-- What is left at an offset stands in its four addresses. -/
theorem leftAt_inside {off : Nat} (aligned : off % 4 = 0) {c : Host.Cell} (mem : c ∈ leftAt s cells off) :
    controlBase s.straps + off ≤ c.1 ∧ c.1 < controlBase s.straps + off + 4 := by
  obtain ⟨a, b⟩ := c
  rcases (mem_leftAt s cells aligned a b).mp mem with ⟨w, found, -, cell⟩ | ⟨-, -, range⟩
  · have := mem_wordCells cell
    rwa [offset_wordAt aligned found] at this
  · exact range

theorem leftAt_rising (rising : cells.Pairwise fun c d => c.1 < d.1) {off : Nat} (aligned : off % 4 = 0) :
    (leftAt s cells off).Pairwise fun c d => c.1 < d.1 := by
  cases found : wordAt off with
  | none =>
    rw [leftAt_none found]
    exact rising.filter _
  | some w =>
    rw [leftAt_word aligned found]
    split
    · unfold wordCells cellsFrom
      exact List.Pairwise.map _ (fun i j h => Nat.add_lt_add_left h _) List.pairwise_lt_range
    · exact List.Pairwise.nil

/-- What a block sends to memory stands in rising address order. -/
theorem leftCells_rising (rising : cells.Pairwise fun c d => c.1 < d.1) {block : Nat} (aligned : block % 4 = 0) :
    (leftCells s cells block).Pairwise fun c d => c.1 < d.1 := by
  unfold leftCells
  rw [List.pairwise_flatMap]
  refine ⟨fun i _ => leftAt_rising s cells rising (by omega), List.pairwise_lt_range.imp fun {i j} less c hc d hd => ?_⟩
  have := leftAt_inside s cells (by omega) hc
  have := leftAt_inside s cells (by omega) hd
  omega

/-- What a block sends to memory is what R185 says of it. -/
theorem leftCells_sent (rising : cells.Pairwise fun c d => c.1 < d.1) {block : Nat} (aligned : block % 64 = 0)
    (inside : ∀ c ∈ cells, controlBase s.straps + block ≤ c.1 ∧ c.1 < controlBase s.straps + block + 64) :
    SentToMemory s cells (leftCells s cells block) := by
  unfold SentToMemory
  intro wordOfByte
  have at' {c : Host.Cell} {i : Nat} (low : controlBase s.straps + (block + 4 * i) ≤ c.1) (high : c.1 < controlBase s.straps + (block + 4 * i) + 4) :
      wordOfByte c.1 = wordAt (block + 4 * i) := by
    show wordAt ((c.1 - controlBase s.straps) / 4 * 4) = _
    rw [show (c.1 - controlBase s.straps) / 4 * 4 = block + 4 * i by omega]
  have place (c : Host.Cell) (mem : c ∈ cells) : ∃ i, i < 16 ∧ controlBase s.straps + (block + 4 * i) ≤ c.1
      ∧ c.1 < controlBase s.straps + (block + 4 * i) + 4 := by
    have := inside c mem
    exact ⟨(c.1 - controlBase s.straps - block) / 4, by omega, by omega, by omega⟩
  refine ⟨(leftCells_rising s cells rising (by omega)).map _ fun c d less => Nat.ne_of_lt less, fun a b => ?_⟩
  unfold leftCells
  rw [List.mem_flatMap]
  constructor
  · rintro ⟨i, -, mem⟩
    rcases (mem_leftAt s cells (by omega) a b).mp mem with ⟨w, found, ⟨c, written, low, high⟩, cell⟩ | ⟨none, written, low, high⟩
    · exact .inl ⟨w, ⟨c, written, (at' low high).trans found⟩, cell⟩
    · exact .inr ⟨written, (at' (c := (a, b)) low high).trans none⟩
  · rintro (⟨w, ⟨c, written, found⟩, cell⟩ | ⟨written, none⟩)
    · obtain ⟨i, low, range⟩ := place c written
      refine ⟨i, List.mem_range.mpr low, (mem_leftAt s cells (by omega) a b).mpr (.inl ⟨w, ?_, ⟨c, written, range⟩, cell⟩)⟩
      rw [← at' range.1 range.2, found]
    · obtain ⟨i, low, range⟩ := place (a, b) written
      refine ⟨i, List.mem_range.mpr low, (mem_leftAt s cells (by omega) a b).mpr (.inr ⟨?_, written, range⟩)⟩
      rw [← at' range.1 range.2, none]

end

/-! ### Bytes at offsets that hold no word -/

/-- The bytes written to sixteen offsets that hold no word are captured by nothing. -/
theorem captureQuarter_wordless {s : State} {cells : List Host.Cell} {off : Nat} (aligned : off % 16 = 0)
    (none : ∀ c ∈ cells, wordAt ((c.1 - controlBase s.straps) / 4 * 4) = none) : QuarterCaptured s s cells off := by
  have clear (o : Nat) (ho : o % 4 = 0) (w : CWord) (found : wordAt o = some w) : Untouched s.straps cells o 4 := fun c mem range => by
    have := none c mem
    rw [show (c.1 - controlBase s.straps) / 4 * 4 = o by omega, found] at this
    exact absurd this (by simp)
  have words : captureWords s (wordsIn s.straps cells off) = s := by
    refine captureWords_none s _ fun p mem => ?_
    obtain ⟨o, offs, found⟩ := List.mem_filterMap.mp mem
    obtain ⟨w, found', rfl⟩ := Option.map_eq_some_iff.mp found
    simp only [List.mem_cons, List.not_mem_nil, or_false] at offs
    exact (clear o (by omega) w found').lanes
  refine ⟨fun f found any => ?_, fun _ => words.symm⟩
  obtain ⟨c, mem, low, high⟩ := (anyLane_lanesAt ..).mp any
  obtain ⟨i, word⟩ := wordAt_entry aligned found (o := (c.1 - controlBase s.straps) / 4 * 4) (by omega) (by omega) (by omega)
  rw [none c mem] at word
  exact absurd word (by simp)

/-- Bytes at offsets that hold no word are sent to memory as written. -/
theorem leftCells_wordless (s : State) (cells : List Host.Cell) (rising : cells.Pairwise fun c d => c.1 < d.1) {block : Nat}
    (aligned : block % 64 = 0) (inside : ∀ c ∈ cells, controlBase s.straps + block ≤ c.1 ∧ c.1 < controlBase s.straps + block + 64)
    (none : ∀ c ∈ cells, wordAt ((c.1 - controlBase s.straps) / 4 * 4) = none) : leftCells s cells block = cells := by
  obtain ⟨-, sent⟩ := leftCells_sent s cells rising aligned inside
  have out := leftCells_rising s cells rising (block := block) (by omega)
  have nodup {l : List Host.Cell} (rising : l.Pairwise fun c d => c.1 < d.1) : l.Nodup := rising.imp fun less e => Nat.ne_of_lt less (congrArg _ e)
  refine ((List.perm_ext_iff_of_nodup (nodup out) (nodup rising)).mpr fun c => ?_).eq_of_pairwise
    (fun c d _ _ less more => absurd less (Nat.lt_asymm more)) out rising
  rw [sent c.1 c.2]
  constructor
  · rintro (⟨w, ⟨d, mem, found⟩, -⟩ | ⟨mem, -⟩)
    · exact absurd ((none d mem).symm.trans found) (by simp)
    · exact mem
  · exact fun mem => .inr ⟨mem, none c mem⟩

/-! ### The rows (R147, R153, R185) -/

theorem zoneEntry_captured {s : State} (ready : ControlReady s) (tick : Nat) (z : Fin 64) {lanes : List Lane} (length : lanes.length = 16)
    (any : anyLane lanes = true) :
    let words := entryWords (fun i => .zone z i) lanes
    let t := captureWords (atTime s tick) words
    exec (.zoneEntryWrite tick z lanes) s = .next (serving t (entryCells t words)) := by
  intro words t
  have aligned : (CWord.zone z 0).offset % 16 = 0 := by show (0x400 + 16 * z.val + 4 * 0) % 16 = 0; omega
  have entry : EntryAt (fun i => .zone z i) (CWord.zone z 0).offset := ⟨fun _ => rfl, aligned, by simp⟩
  have selected : t.cc.selected = s.cc.selected := captureWords_selected _ _ (by simp [words, entryWords])
  refine congrArg _ (entry.arrive_eq length ready tick any ⟨fun f found => ?_, fun _ => ?_⟩ selected)
  · rw [wordAt_offset] at found
    exact absurd found (by simp)
  · show t = captureWords (atTime s tick) (wordsIn s.straps _ _)
    rw [entry.wordsIn_eq length]

theorem fixtureEntry_captured {s : State} (ready : ControlReady s) (tick : Nat) (f : Fin 128) {lanes : List Lane} (length : lanes.length = 16)
    (any : anyLane lanes = true) :
    let words := entryWords (fun i => .fixture f i) lanes
    let t := entryWritten (captureWords (atTime s tick) words) f
    exec (.fixtureEntryWrite tick f lanes) s = .next (serving t (entryCells t words)) := by
  intro words t
  have aligned : (CWord.fixture f 0).offset % 16 = 0 := by show (0x800 + 16 * f.val + 4 * 0) % 16 = 0; omega
  have entry : EntryAt (fun i => .fixture f i) (CWord.fixture f 0).offset := ⟨fun _ => rfl, aligned, by simp⟩
  have selected : t.cc.selected = s.cc.selected := by
    show (entryWritten _ f).cc.selected = _
    rw [entryWritten_cc]
    exact captureWords_selected _ _ (by simp [words, entryWords])
  refine congrArg _ (entry.arrive_eq length ready tick any ⟨fun g found _ => ?_, fun none => ?_⟩ selected)
  · rw [wordAt_offset] at found
    cases found
    show t = entryWritten (captureWords (atTime s tick) (wordsIn s.straps _ _)) _
    rw [entry.wordsIn_eq length]
  · have written := none f (wordAt_offset _)
    rw [show (atTime s tick).straps = s.straps from rfl, entry.lanesAt_eq length, any] at written
    exact absurd written (by decide)

section
variable {s : State} (ready : ControlReady s) (tick : Nat) (offset : BitVec 14) (beats : Byte) (lanes : List Lane)
  (valid : requestError (writeRequest (controlBase s.straps + offset.toNat) beats lanes) = none)
  (some : reqCells (writeRequest (controlBase s.straps + offset.toNat) beats lanes) ≠ [])
include ready valid some

theorem settingWord_taken (control : ∀ c ∈ reqCells (writeRequest (controlBase s.straps + offset.toNat) beats lanes), s.classOf c.1 = .control) :
    exec (.settingWordWrite tick offset beats lanes) s = .next (takeControlWrite (atTime s tick)
      (reqCells (writeRequest (controlBase s.straps + offset.toNat) beats lanes)) (offset.toNat / 64 * 64)) :=
  congrArg _ (arrive_control ready.1 tick offset.isLt valid some control)

theorem settingWord_captured (control : ∀ c ∈ reqCells (writeRequest (controlBase s.straps + offset.toNat) beats lanes), s.classOf c.1 = .control)
    {t : State} (straps : t.straps = s.straps) (captured : captureWrite (atTime s tick) (reqCells (writeRequest (controlBase s.straps + offset.toNat) beats lanes))
      (offset.toNat / 64 * 64) = t) :
    ∃ out, SentToMemory t (reqCells (writeRequest (controlBase s.straps + offset.toNat) beats lanes)) out
      ∧ (t.cc.selected = s.cc.selected → exec (.settingWordWrite tick offset beats lanes) s = .next (serving t out))
      ∧ (t.cc.selected ≠ s.cc.selected → exec (.settingWordWrite tick offset beats lanes) s
          = .next { t with port := { t.port with phase := .refresh (out :: refreshCells t), claim := true } }) := by
  have inside := fun c => control_block s.straps offset.isLt valid (c := c)
  rw [← straps] at inside
  have sent := leftCells_sent t _ (reqCells_rising _) (Nat.mul_mod_left ..) inside
  rw [straps] at sent
  obtain ⟨same, changed⟩ := takeControlWrite_eq captured rfl
  rw [settingWord_taken ready tick offset beats lanes valid some control]
  exact ⟨_, sent, fun h => congrArg _ (same h), fun h => congrArg _ (changed h)⟩

theorem settingWord_wordless (none : ∀ c ∈ reqCells (writeRequest (controlBase s.straps + offset.toNat) beats lanes),
      s.classOf c.1 = .control ∧ wordAt ((c.1 - controlBase s.straps) / 4 * 4) = none) :
    exec (.settingWordWrite tick offset beats lanes) s
      = .next (serving (atTime s tick) (reqCells (writeRequest (controlBase s.straps + offset.toNat) beats lanes))) := by
  have inside := fun c => control_block s.straps offset.isLt valid (c := c)
  rw [settingWord_taken ready tick offset beats lanes valid some fun c mem => (none c mem).1]
  have wordless := fun c mem => (none c mem).2
  have rising := reqCells_rising (writeRequest (controlBase s.straps + offset.toNat) beats lanes)
  generalize reqCells (writeRequest (controlBase s.straps + offset.toNat) beats lanes) = cells at inside wordless rising ⊢
  have quarter (off : Nat) (aligned : off % 16 = 0) : QuarterCaptured (atTime s tick) (atTime s tick) cells off :=
    captureQuarter_wordless aligned wordless
  have captured := captureWrite_eq (block := offset.toNat / 64 * 64) (by omega) (quarter _ (by omega)) (quarter _ (by omega)) (quarter _ (by omega))
    (quarter _ (by omega))
  have left := leftCells_wordless (atTime s tick) cells rising (block := offset.toNat / 64 * 64) (by omega) inside wordless
  exact congrArg _ ((takeControlWrite_eq captured left).1 rfl)

end

theorem reportMask_captured {s : State} (ready : ControlReady s) (tick : Nat) {en : BitVec 4} (some : en ≠ 0) (v : Word) :
    let m := mergeWord s.cc.setting[8] (wordLanes en v)
    let t := takenWith (atTime s tick) (.setting 8) m m
    exec (.settingWordWrite tick 0x020 1 (wordLanes en v ++ List.replicate 12 none)) s = .next (serving t (wordCells t (.setting 8))) := by
  intro m t
  have arrives := (arriveWord_eq ready tick (.setting 8) (by simp) some v).1 (captureMerged_selected _ _ _ (by simp))
  have capture : captureMerged (atTime s tick) (.setting 8) (mergeWord (s.cc.word (.setting 8)) (wordLanes en v)) = t :=
    takeWord_eq ..
  rw [capture] at arrives
  exact congrArg _ arrives

/-- Settles O23: entries as sixteen bytes, other writes as the four quarters of their block. -/
theorem entryAndOtherControlWritesAreCaptured : Obligations.EntryAndOtherControlWritesAreCaptured := by
  unfold Obligations.EntryAndOtherControlWritesAreCaptured
  intro tick s ready
  refine ⟨fun z lanes length any => zoneEntry_captured ready tick z length any, fun f lanes length any => fixtureEntry_captured ready tick f length any,
    ?_, fun offset beats lanes => settingWord_wordless ready tick offset beats lanes, fun en v some => reportMask_captured ready tick some v⟩
  intro offset beats lanes r valid some control block s1 s2 s3 s4 h1 h2 h3 h4
  have captured : captureWrite (atTime s tick) (reqCells r) block = s4 := captureWrite_eq (by omega) h1 h2 h3 h4
  have straps : s4.straps = s.straps := by rw [← captured, captureWrite_straps]; rfl
  obtain ⟨out, sent, same, changed⟩ := settingWord_captured ready tick offset beats lanes valid some control straps captured
  refine ⟨out, sent, same, fun h => ?_⟩
  rw [changed h, refreshCells, straps]

end Sys2Proof.Machine
end

section
/-! Power-on reset block by block (O13). -/

namespace Sys2Proof.Machine

/-! ### The control words (R93, R135, R152, R155, R172, R191) -/

theorem powerOn_wall :
    let c := Shadow.powerOn
    c.running = false ∧ c.copyForward = true ∧ c.attentionEnable = false ∧ c.width = 1920 ∧ c.height = 1080
      ∧ c.canvasBase = 0 ∧ c.regionBase = 0x10000000 ∧ c.orderCode = 0 ∧ c.ringBase = 0x0F000000
      ∧ c.ringCode = 0 ∧ (∀ code, 1 ≤ code → code ≤ 9 → c.kindEnabled code = true) := by
  refine ⟨rfl, rfl, rfl, rfl, rfl, rfl, rfl, rfl, rfl, rfl, fun code low high => ?_⟩
  interval_cases code <;> rfl

theorem powerOn_timing :
    let c := Shadow.powerOn
    c.modeInternal = false ∧ c.acquireCount = 6 ∧ c.period = 2000000 ∧ c.tolerance = 500
      ∧ c.phaseOffset = 0 ∧ c.holdoverLimit = 50 ∧ c.missLimit = 4 :=
  ⟨rfl, rfl, rfl, rfl, rfl, rfl, rfl⟩

theorem powerOn_tally :
    let c := Shadow.powerOn
    (∀ i : Fin 8, c.edgeMode i = 0 ∧ c.rankAt i.val = i ∧ c.cameraLook i = .a) ∧ c.defaultLook = .a
      ∧ c.selected = .a ∧ ∀ l : Look, (c.look l).wallGain = 255 ∧ (c.look l).gains = ⟨128, 128, 128⟩ := by
  refine ⟨by decide, rfl, rfl, fun l => ?_⟩
  cases l <;> exact ⟨rfl, rfl⟩

theorem powerOn_lampWords (l : Fin 2) :
    Shadow.powerOn.lampEnable l = false ∧ Shadow.powerOn.lampSlots l = 512 ∧ Shadow.powerOn.lampByteTicks l = 4000 := by
  revert l
  decide

theorem powerOn_zone (z : Fin 64) : zoneOf Shadow.powerOn.zones[z] = ⟨false, 0, 0, 0, 0, none⟩ := by
  have entry : Shadow.powerOn.zones[z] = #v[0x00001000, 0, 0, 0] := getElem_replicate_fin ..
  rw [entry]
  decide

theorem powerOn_fixture (i : Fin 128) :
    let w := Shadow.powerOn.fixtures[i]
    fixMode w = 0 ∧ fixZone w = 0 ∧ fixLink w = 0 ∧ fixSlot w = 0 ∧ fixTrim w = ⟨15, 15, 15⟩ ∧ fixFade w = 0 ∧ fixLevels w = ⟨0, 0, 0⟩ := by
  have entry : Shadow.powerOn.fixtures[i] = #v[0, 0x0FFF0000, 0, 0] := getElem_replicate_fin ..
  rw [entry]
  decide

theorem powerOn_tile (l : Fin 24) :
    let c := Shadow.powerOn
    c.linkEnable l = false ∧ c.linkByteTicks l = 1 ∧ field (c.tiles[l])[0] 3 5 = 1
      ∧ field (c.tiles[l])[0] 8 10 = 16 ∧ field (c.tiles[l])[0] 18 10 = 1 ∧ (c.tiles[l])[1] = 0x000F0F0F
      ∧ ∀ r : Fin 32, 2 ≤ r.val → (c.tiles[l])[r] = 0 := by
  have entry : Shadow.powerOn.tiles[l] = ((Vector.replicate 32 0).set 0 0x00041008 |>.set 1 0x000F0F0F) := getElem_replicate_fin ..
  unfold Shadow.linkEnable Shadow.linkByteTicks
  dsimp only
  rw [entry]
  decide

/-! ### Memory (R29, R49, R55) -/

/-- Of memory power-on reset touches at most the bytes of a write that stood granted. -/
theorem read_memoryAtReset (s : State) (a : Nat) (outside : ∀ undo, s.channel = .write undo → a ∉ undo.map (·.1)) :
    Memory.read (memoryAtReset s) a = Memory.read s.mem a := by
  unfold memoryAtReset
  split
  · next undo channel =>
    refine Memory.read_writeAll_outside _ a (fun c mem same => ?_) s.mem
    exact outside undo channel (List.mem_map.mpr ⟨c, List.mem_of_mem_filter mem, same⟩)
  · rfl

section
variable (straps : BitVec 2) (levels : BitVec 8) (mem : List Host.Cell) (arrived : List Request) (responses : List Response) (draws : Nat)
  (pending : List Instr)

theorem powerOn_claimants (c : Claimant) :
    let t := State.powerOn straps levels mem arrived responses draws pending
    t.passed.get c = 0 ∧ (c ≠ .sp → waiting t c = false) := by
  cases c with
  | sp => exact ⟨rfl, fun h => absurd rfl h⟩
  | scanOut | copy | report => exact ⟨rfl, fun _ => rfl⟩

theorem powerOn_banks (k : Fin 4) :
    let t := State.powerOn straps levels mem arrived responses draws pending
    (t.banks[k]).state = .free ∧ (t.banks[k]).host = none ∧ (t.banks[k]).written = 0
      ∧ (t.banks[k]).src = none ∧ (t.banks[k]).progress = 0
      ∧ ∀ z : Fin 64, (t.banks[k]).geom[z] = ⟨false, 0, 0, 0, 0, none⟩ ∧ (t.banks[k]).acc[z] = ⟨⟨0, 0, 0⟩, 0, false⟩ := by
  intro t
  have bank : t.banks[k] = Bank.powerOn := powerOn_bank ..
  rw [bank]
  exact ⟨rfl, rfl, rfl, rfl, rfl, fun z => ⟨getElem_replicate_fin .., getElem_replicate_fin ..⟩⟩

theorem powerOn_links (l : Fin 24) :
    let t := State.powerOn straps levels mem arrived responses draws pending
    t.so.links[l] = ⟨false, false, 0, 0⟩ ∧ t.tx[l] = ⟨none, none, none⟩ ∧ t.lsv.links[l] = ⟨.off, none, 0, false, false, false, false⟩ :=
  ⟨getElem_replicate_fin .., getElem_replicate_fin .., getElem_replicate_fin ..⟩

theorem powerOn_rates (l : Fin 24) :
    let t := State.powerOn straps levels mem arrived responses draws pending
    t.lsv.joined[l] = none ∧ ∀ x, rateAt t l x = 0 := by
  refine ⟨getElem_replicate_fin .., fun x => ?_⟩
  have rates : (State.powerOn straps levels mem arrived responses draws pending).lsv.rates[l] = [] := getElem_replicate_fin ..
  unfold rateAt
  rw [rates]
  rfl

end

/-- Settles O13, block by block. -/
theorem powerOnResetSetsEveryBlock : Obligations.PowerOnResetSetsEveryBlock := by
  unfold Obligations.PowerOnResetSetsEveryBlock
  intro straps levels s
  refine ⟨_, rfl, rfl, rfl, powerOn_wall, powerOn_timing, powerOn_tally, powerOn_lampWords, powerOn_zone, powerOn_fixture, powerOn_tile,
    ⟨rfl, rfl, rfl, rfl⟩, ⟨rfl, rfl⟩, ⟨rfl, fun c => powerOn_claimants (c := c) ..⟩, fun k => powerOn_banks (k := k) .., ⟨rfl, rfl, rfl, rfl⟩, rfl, ⟨rfl, rfl, rfl, rfl, rfl, rfl⟩,
    fun l => powerOn_links (l := l) .., ⟨rfl, fun l => powerOn_rates (l := l) ..⟩, ⟨rfl, rfl, rfl, rfl, rfl⟩, fun i => getElem_replicate_fin .., rfl, fun l => getElem_replicate_fin ..,
    ⟨rfl, rfl, rfl, rfl, rfl, rfl, rfl, fun i => getElem_replicate_fin ..⟩, read_memoryAtReset s⟩

end Sys2Proof.Machine
end
